-- ==== Sys2Proof/Word.lean ====
section
/-! DEFINITION. The words of the block: the port and wire widths of spec/00_scope.md R9 and R10, and the
8-byte frame payload of spec/20_memory.md R47. Everything computed over them stands in Machine/Ops.lean. -/

namespace Sys2Proof

/-- One byte of a frame payload or of a host command (R9, R79). -/
abbrev Byte := BitVec 8
/-- A 16-bit field: SDO index, RPDO command code, setpoints, limits, telemetry fields (R9). -/
abbrev U16 := BitVec 16
/-- A 32-bit field: codec data, intervals, the fault-ACK counter (R9, R10). -/
abbrev U32 := BitVec 32
/-- The 64-bit microsecond time base and the frame timestamp (R10, R84). -/
abbrev U64 := BitVec 64
/-- An 11-bit CAN identifier: function code in bits 10..7, node in bits 6..0 (R46, R61). -/
abbrev CobId := BitVec 11
/-- A 7-bit node identifier, 0 to 127 (R9). -/
abbrev NodeId := BitVec 7

/-- The eight byte positions 0 to 7 of a frame payload (R47). -/
structure Payload where
  b0 : Byte
  b1 : Byte
  b2 : Byte
  b3 : Byte
  b4 : Byte
  b5 : Byte
  b6 : Byte
  b7 : Byte
  deriving DecidableEq, Repr

end Sys2Proof
end

