-- ==== Sys2Proof/Config.lean ====
section
/-! DEFINITION. What the spec leaves to the environment or to the implementation (spec/00_scope.md R10,
spec/93_implementation_defined.md): opaque constants with no body, so no claim can rest on a value of one. -/

namespace Sys2Proof

/-- SEND_OK (R10, R14, D30, I-10): the transport's answer to the k-th send, "a draw per send, under no law".
State.sendDraws counts the sends. DESIGN CHOICE notes/assumptions/3.md. -/
opaque Config.sendOk : Nat → Bool

/-- TIMER_TIE (R10, R111, D10, I-6): whether the k-th timer check counts `elapsed == interval` as expired.
State.tieDraws counts the checks. DESIGN CHOICE notes/assumptions/3.md. -/
opaque Config.timerTie : Nat → Bool

/-- FAULT_ACK_DUMMY (R10, R68, D17, I-8): the fault-ACK's dummy byte, left OPEN by the spec; its default 0x00
is for test vectors only, so it stays symbolic. DESIGN CHOICE notes/assumptions/4.md. -/
opaque Config.faultAckDummy : Byte

end Sys2Proof
end

