-- ==== Sys2Proof/Syntax.lean ====
section
/-! DEFINITION. The instructions: one constructor for each of the 42 rows of spec/opcode_table.json, with the
fields of spec/30_encoding.md R80 (host operations) and R63 to R74 (wire frames), and the items in which the
two encodings reach the block's port. -/

namespace Sys2Proof

/-- The instructions of the block. The first 25 are the host operations of R81; the last 17 are the wire
formats, whose meaning as operations is notes/assumptions/11.md: a block-to-device frame is the
pseudo-instruction of R88 that sends it, a device-to-block frame is the RX_FRAME that delivers it. -/
inductive Instr where
  -- codec (spec/40_codec.md)
  | sdoWrite (node : Byte) (index : U16) (subindex : Byte) (w : Byte) (data : U32)
  | sdoReadReq (node : Byte) (index : U16) (subindex : Byte) (w : Byte)
  | rpdoSend (node : Byte) (channelBase : U16) (commandCode : U16) (offset : Byte) (w : Byte) (data : U32)
  | decodeCobId (cobId : U16)
  | decodeSdoIndex (payload : Payload)
  | decodeSdoSubindex (payload : Payload)
  | bfHi (v : U16)
  | bfLo (v : U16)
  | bfSetHi (v : U16) (b : Byte)
  | bfSetLo (v : U16) (b : Byte)
  -- tick and frame ingestion (spec/41_controller_tick.md, spec/42_controller_rx.md)
  | execute (flags : Byte) (nowUs : U64)
  | rxFrame (sourceCobId : U16) (length : Byte) (payload : Payload) (timestamp : U64) (nowUs : U64)
  -- setters and halt (spec/43_controller_commands.md)
  | setPosition (sp : U16)
  | setSpeed (sp : U16)
  | setAmps (sp : U16)
  | setUndefined
  | halt (flags : Byte)
  -- getters
  | getPosition
  | getSpeed
  | getAmps
  | getStatusWord
  | getLegacyFaultStatus
  -- registers
  | readReg (reg : Byte)
  | writeConfig (reg : Byte) (value : U32)
  | reset (nodeId : Byte) (protocol : Byte) (encoderPresent : Byte) (rpdoIntervalUs : U32)
      (healthTimeoutUs : U32) (posMin : U16) (posMax : U16) (speedMin : U16) (speedMax : U16)
      (ampsMin : U16) (ampsMax : U16) (nowUs : U64)
  -- WIRE_SDO rows (R63 to R65)
  | sdoDownload1B (node : NodeId) (index : U16) (subindex : Byte) (data : Byte)
  | sdoDownload2B (node : NodeId) (index : U16) (subindex : Byte) (data : U16)
  | sdoDownload4B (node : NodeId) (index : U16) (subindex : Byte) (data : U32)
  | sdoUploadReq1B (node : NodeId) (index : U16) (subindex : Byte)
  | sdoUploadReq2B (node : NodeId) (index : U16) (subindex : Byte)
  | sdoUploadReq4B (node : NodeId) (index : U16) (subindex : Byte)
  -- WIRE_RPDO_V2 rows (R68)
  | v2CmdPosition (node : NodeId) (sp : U16)
  | v2CmdSpeed (node : NodeId) (sp : U16)
  | v2CmdAmps (node : NodeId) (sp : U16)
  | v2FaultAck (node : NodeId)
  -- WIRE_RPDO_LEGACY rows (R67)
  | legacyCmdPosition (node : NodeId) (sp : U16)
  | legacyCmdSpeedEncoder (node : NodeId) (sp : U16)
  | legacyCmdSpeedNoEncoder (node : NodeId) (sp : U16)
  -- WIRE_TPDO rows (R70 to R75)
  | tpdoPrimary (node : NodeId) (length : Byte) (payload : Payload) (timestamp : U64) (nowUs : U64)
  | tpdoSecondary (node : NodeId) (length : Byte) (payload : Payload) (timestamp : U64) (nowUs : U64)
  | tpdoTertiary (node : NodeId) (length : Byte) (payload : Payload) (timestamp : U64) (nowUs : U64)
  | tpdoQuaternary (node : NodeId) (length : Byte) (payload : Payload) (timestamp : U64) (nowUs : U64)
  deriving DecidableEq, Repr

/-- The wire formats of spec/opcode_table.json: each names the key its rows are matched on (R89). -/
inductive WireFormat where
  /-- `WIRE_SDO`: the key is payload byte 0. -/
  | sdo
  /-- `WIRE_RPDO_V2`: the key is the command code, payload bytes 0 and 1, low byte first. -/
  | rpdoV2
  /-- `WIRE_RPDO_LEGACY`: the key is the 11-bit COB-ID. -/
  | rpdoLegacy
  /-- `WIRE_TPDO`: the key is the 11-bit COB-ID under mask 0x780. -/
  | tpdo
  deriving DecidableEq, Repr

/-- A frame of the wire encoding at the port. `length`, `timestamp` and `nowUs` are what the transport and
the time source deliver with a received frame (R5, R42); a frame to be sent has length 8 and does not use
the other two (R47). -/
structure Frame where
  format : WireFormat
  cobId : CobId
  length : Byte
  payload : Payload
  timestamp : U64
  nowUs : U64
  deriving DecidableEq, Repr

/-- One item of what the host has issued and the block has not yet run: a byte of the command stream
(R79, R85), or a whole frame given as a record (R79: "A model may equally take an operation as a record
with the same named fields"). -/
inductive PortItem where
  | byte (b : Byte)
  | frame (f : Frame)
  deriving DecidableEq, Repr

end Sys2Proof
end

