-- ==== Sys2Proof/Machine/State.lean ====
section
/-! DEFINITION. The state of the block (spec/10_state.md), its inputs and outputs at the ports
(spec/20_memory.md, spec/60_exceptions.md), the reasons a step can stop, and the state right after reset
(spec/70_reset_and_hazards.md R196, R197). -/

namespace Sys2Proof.Machine

/-- CFG_PROTOCOL (R21): the wire variant. -/
inductive Protocol where
  | legacy
  | canopenV2
  deriving DecidableEq, Repr

/-- TELEM_STATE (R29): the telemetry axis. -/
inductive Telemetry where
  | noTelemetry
  | telemetryPresent
  deriving DecidableEq, Repr

/-- OP_MODE (R30): the mode axis. `undefined` is the name of a mode, not an undefined behaviour. -/
inductive Mode where
  | undefined
  | position
  | speed
  | amps
  deriving DecidableEq, Repr

/-- The eleven configuration registers 0x00 to 0x0A (R19 to R28). Limits are 16-bit patterns. -/
structure CfgRegs where
  nodeId : NodeId
  protocol : Protocol
  encoderPresent : Bool
  rpdoIntervalUs : U32
  healthTimeoutUs : U32
  posMin : U16
  posMax : U16
  speedMin : U16
  speedMax : U16
  ampsMin : U16
  ampsMax : U16
  deriving DecidableEq, Repr

/-- The telemetry snapshot (R35) with its hidden written bits (R36). -/
structure Snapshot where
  position : U16
  speed : U16
  amps : U16
  status : U16
  legacyFs : U16
  wPosition : Bool
  wSpeed : Bool
  wAmps : Bool
  wStatus : Bool
  wLegacyFs : Bool
  deriving DecidableEq, Repr

/-- The event `TX(cob_id, payload[8])` of the output trace (R14, R43). -/
structure TxEvent where
  cobId : CobId
  payload : Payload
  deriving DecidableEq, Repr

/-- The status codes of R176; their numbers are Machine/Flags.lean's `statusCode`. -/
inductive Status where
  | ok
  | cvWidth
  | cvOffset
  | cvCobRange
  | cvNodeRange
  | cvSetpointRange
  | cvNoTelemetry
  | cvUnsupportedMode
  | cvLegacySecondaryNoEncoder
  | cvLength
  | cvFieldInvalid
  | cvConfigValue
  | illegalOp
  | fault
  deriving DecidableEq, Repr

/-- The one fault code of R176: FLT_LEGACY_AMPS, raised by the command encoder (R153). -/
inductive FaultCode where
  | legacyAmps
  deriving DecidableEq, Repr

/-- Why a tick reset the telemetry axis (R119). -/
inductive Loss where
  | none
  | disconnect
  | timeout
  deriving DecidableEq, Repr

/-- The optional result value of an operation (R79). `none` stands with every status that is not OK and with
the operations that give no value. -/
inductive Result where
  | none
  /-- BF_HI, BF_LO, DECODE_SDO_SUBINDEX. -/
  | byte (v : Byte)
  /-- BF_SET_HI, BF_SET_LO, DECODE_SDO_INDEX, GET_POSITION, GET_STATUS_WORD, GET_LEGACY_FAULT_STATUS. -/
  | word (v : U16)
  /-- GET_SPEED, GET_AMPS: `sext_16` of the register (R165, R166). -/
  | signed (v : Int)
  /-- READ_REG (R170). -/
  | reg (v : U32)
  /-- DECODE_COB_ID (R100): the function code in place, and the node. -/
  | cobParts (functionCode : U16) (nodeId : U16)
  /-- The codec's sends (R97 to R99). -/
  | sent (ok : Bool)
  /-- HALT (R159): `none` when no frame was built. -/
  | haltSent (sent : Option Bool)
  /-- EXECUTE (R116). -/
  | tick (loss : Loss) (fired : Bool) (sent : Option Bool)
  /-- RX_FRAME (R123): `ack` is given by the primary channel only (R129). -/
  | rx (processed : Bool) (ack : Option Bool)
  deriving DecidableEq, Repr

/-- What the host port returns for an operation (R79, R176). -/
structure Response where
  status : Status
  result : Result
  deriving DecidableEq, Repr

/-- The state of one block.

Architectural state of the spec: `cfg` to `rpdoStart`, and the output trace. Port state: `port` (what the
host has issued), `response` (what the port returned last). The model's own: `initialised`, `sendDraws`,
`tieDraws` (notes/assumptions/2.md, 3.md, 5.md). -/
structure State where
  /-- Configuration registers 0x00 to 0x0A. -/
  cfg : CfgRegs
  /-- TELEM_STATE, register 0x10 (R29). -/
  telem : Telemetry
  /-- OP_MODE, register 0x11 (R30). -/
  mode : Mode
  /-- SETPOINT, register 0x12 (R31). -/
  setpoint : U16
  /-- FAULT_ACK_COUNT, register 0x13 (R32). -/
  faultAckCount : U32
  /-- CV_LATCHED, bit 0 of register 0x14 (R33). -/
  cvLatched : Bool
  /-- CV_FIRST_CODE, bits 15..8 of register 0x14 (R33). -/
  cvFirstCode : Byte
  /-- FAULTED, bit 0 of register 0x15 (R34). -/
  faulted : Bool
  /-- FAULT_CODE, bits 15..8 of register 0x15 (R34). -/
  faultCode : Byte
  /-- The telemetry snapshot (R35, R36). -/
  snap : Snapshot
  /-- HEALTH_START (R38). -/
  healthStart : U64
  /-- RPDO_START (R39). -/
  rpdoStart : U64
  /-- The output trace, oldest event first (R43). -/
  trace : List TxEvent
  /-- The status and value of the latest operation (R41, R79). -/
  response : Response
  /-- What the host has issued and the block has not run, oldest first (R57, R79, R85). -/
  port : List PortItem
  /-- Whether a first RESET has been accepted (R199). -/
  initialised : Bool
  /-- How many `Send` answers have been drawn: the index of Config.sendOk. -/
  sendDraws : Nat
  /-- How many timer checks have been made: the index of Config.timerTie. -/
  tieDraws : Nat
  deriving DecidableEq, Repr

/-- Reasons a step stops with a fault. There are none: the spec's FAULT is a status code and a sticky bit of a
state that goes on (R179: "A faulted block is not a final state"), so no step of this model ends in a fault;
safe, since nothing is hidden behind one. -/
inductive Fault
  deriving DecidableEq, Repr

/-- Reasons a step is refused. -/
inductive Refusal where
  /-- An instruction with no meaning yet: raised by `exec`'s refused arms only, of which there are none; safe. -/
  | notModelled (mnemonic : String)
  /-- Any operation but RESET before the first RESET (R199, I-11: "a model refuses it (it has no step)"):
  raised by every operation through `guarded`; safe. -/
  | beforeFirstReset
  /-- An operation issued inside another command (R201, I-12: `refuse`, no step): raised by `step`; safe. -/
  | overlappingOperations
  /-- A frame to be sent that no wire row names (R77: "The block never sends one"): raised by `step`; safe. -/
  | noWireRow
  deriving DecidableEq, Repr

/-- The configuration right after reset: the spec gives "the RESET operands" and no default, so the model
takes zeros, which is node 0 ("unconfigured"), Legacy, no encoder. DESIGN CHOICE notes/assumptions/1.md. -/
def CfgRegs.unconfigured : CfgRegs where
  nodeId := 0
  protocol := .legacy
  encoderPresent := false
  rpdoIntervalUs := 0
  healthTimeoutUs := 0
  posMin := 0
  posMax := 0
  speedMin := 0
  speedMax := 0
  ampsMin := 0
  ampsMax := 0

/-- The snapshot after reset: every register 0x0000, every written bit 0 (R196, R197). -/
def Snapshot.cleared : Snapshot where
  position := 0
  speed := 0
  amps := 0
  status := 0
  legacyFs := 0
  wPosition := false
  wSpeed := false
  wAmps := false
  wStatus := false
  wLegacyFs := false

/-- The block right after a RESET with zero operands at time 0 (R196, R197). -/
def State.reset : State where
  cfg := CfgRegs.unconfigured
  telem := .noTelemetry
  mode := .undefined
  setpoint := 0
  faultAckCount := 0
  cvLatched := false
  cvFirstCode := 0
  faulted := false
  faultCode := 0
  snap := Snapshot.cleared
  healthStart := 0
  rpdoStart := 0
  trace := []
  response := ⟨.ok, .none⟩
  port := []
  initialised := true
  sendDraws := 0
  tieDraws := 0

end Sys2Proof.Machine
end

