-- ==== Sys2Proof/Machine/Operands.lean ====
section
/-! DEFINITION. The operand forms of the operations: how arguments are checked and read (R83, R84, R96), signed
values (R11, R78), payload fields (R12, R52, R53), register numbers (R48), and the constants of R104. -/

namespace Sys2Proof.Machine

/-! ## Constants (R104) and command codes (R68) -/

/-- SDO_REQ_BASE. -/
def sdoReqBase : Nat := 0x600
/-- SDO_RESP_BASE, the class of SDO responses: the block sends none and processes none (R6, R50, R128). -/
def sdoRespBase : Nat := 0x580
/-- RPDO1, the primary command channel. -/
def rpdo1Base : Nat := 0x200
/-- RPDO_LEGACY_SPEED, the legacy speed channel. -/
def rpdoLegacySpeedBase : Nat := 0x300
/-- TPDO1 to TPDO4. -/
def tpdo1Base : Nat := 0x180
def tpdo2Base : Nat := 0x280
def tpdo3Base : Nat := 0x380
def tpdo4Base : Nat := 0x480
/-- FC_MASK. -/
def fcMask : U16 := 0x780
/-- NODE_MASK. -/
def nodeMask : U16 := 0x07F
/-- CANopenV2 command codes (R68). -/
def v2PositionCode : U16 := 0x0021
def v2SpeedCode : U16 := 0x0005
def v2AmpsCode : U16 := 0x0001
def v2FaultAckCode : U16 := 0x0002

/-! ## Argument checks -/

/-- `WidthOK(w)` (R96). -/
def widthOk (w : Byte) : Bool := decide (w = 1 ∨ w = 2 ∨ w = 4)

/-- `SdoWriteCmd(w)` (R64, R96), applied only to a legal w. -/
def sdoWriteCmd (w : Byte) : Byte :=
  if w = 1 then 0x2F else if w = 2 then 0x2B else 0x23

/-- `SdoReadCmd(w)` (R64, R96), applied only to a legal w. -/
def sdoReadCmd (w : Byte) : Byte :=
  if w = 1 then 0x4F else if w = 2 then 0x4B else 0x43

/-- Whether any reserved flag bit 7..1 is set (R83). -/
def reservedFlagSet (flags : Byte) : Bool := decide (flags.extractLsb' 1 7 ≠ 0)

/-- `connected`, flag bit 0 (R80). -/
def connectedFlag (flags : Byte) : Bool := flags.getLsbD 0

/-- The identifier `base + node`, for a sum already known to fit in 11 bits (R50, R99). -/
def cobAt (base node : Nat) : CobId := BitVec.ofNat 11 (base + node)

/-! ## Signed values -/

/-- `sext_16(v)`: the signed value of a 16-bit pattern (R11). -/
def sext16 (v : U16) : Int := v.toInt

/-- Inclusive unsigned range (R143). -/
def inUnsignedRange (lo hi v : U16) : Bool := decide (lo.toNat ≤ v.toNat ∧ v.toNat ≤ hi.toNat)

/-- Inclusive signed range (R144, R145). -/
def inSignedRange (lo hi v : U16) : Bool :=
  decide (sext16 lo ≤ sext16 v ∧ sext16 v ≤ sext16 hi)

/-! ## Payload fields -/

/-- `p[i]`, defined for i in 0..7; no rule reads beyond (R12). -/
def byteAt (p : Payload) (i : Nat) : Byte :=
  match i with
  | 0 => p.b0
  | 1 => p.b1
  | 2 => p.b2
  | 3 => p.b3
  | 4 => p.b4
  | 5 => p.b5
  | 6 => p.b6
  | 7 => p.b7
  | _ => 0

/-- The payload with byte f(i) at position i. -/
def payloadOf (f : Nat → Byte) : Payload := ⟨f 0, f 1, f 2, f 3, f 4, f 5, f 6, f 7⟩

/-- `[0x00] * 8` (R47). -/
def zeroPayload : Payload := payloadOf fun _ => 0

/-- `MemRead(p, off, n)`: the sum of p[off+k] * 256^k (R12). -/
def memRead (p : Payload) (off : Nat) : Nat → Nat
  | 0 => 0
  | n + 1 => memRead p off n + (byteAt p (off + n)).toNat * 256 ^ n

/-- A 16-bit field, low byte first: `MemRead(p, off, 2)` (R52). -/
def memRead16 (p : Payload) (off : Nat) : U16 := BitVec.ofNat 16 (memRead p off 2)

/-- `MemWrite(p, off, n, v)`: byte off+k becomes (v >> 8k) & 0xFF for k < n (R12). Bits of v above 8n are
dropped, which is the truncation `data[8w-1:0]` of R86. -/
def memWrite (p : Payload) (off n : Nat) (v : U32) : Payload :=
  payloadOf fun i => if off ≤ i ∧ i < off + n then v.extractLsb' (8 * (i - off)) 8 else byteAt p i

/-- `p[i] <- b`. -/
def setByte (p : Payload) (i : Nat) (b : Byte) : Payload :=
  payloadOf fun j => if j = i then b else byteAt p j

/-! ## Register numbers -/

/-- The configuration registers by name (R20 to R27). -/
def configRegAssigned (reg : Byte) : Bool := decide (reg.toNat ≤ 0x0A)

/-- `Legal(reg, value)` of WRITE_CONFIG, for an assigned configuration register (R171). -/
def configValueLegal (reg : Byte) (value : U32) : Bool :=
  match reg.toNat with
  | 0x00 => decide (value.toNat ≤ 127)
  | 0x01 => decide (value.toNat ≤ 1)
  | 0x02 => decide (value.toNat ≤ 1)
  | 0x03 => true
  | 0x04 => true
  | _ => decide (value.toNat ≤ 0xFFFF)

/-- Protocol of a register bit: 0 = Legacy, 1 = CANopenV2 (R21). -/
def protocolOfBit (b : Bool) : Protocol := if b then .canopenV2 else .legacy

/-- CFG_PROTOCOL's register value (R21). -/
def protocolCode (p : Protocol) : U32 :=
  match p with
  | .legacy => 0
  | .canopenV2 => 1

/-- TELEM_STATE's register value (R29). -/
def telemCode (t : Telemetry) : U32 :=
  match t with
  | .noTelemetry => 0
  | .telemetryPresent => 1

/-- OP_MODE's register value (R30). -/
def modeCode (m : Mode) : U32 :=
  match m with
  | .undefined => 0
  | .position => 1
  | .speed => 2
  | .amps => 3

end Sys2Proof.Machine
end

