-- ==== Sys2Proof/Machine/Flags.lean ====
section
/-! DEFINITION. The flags of the block (R41): status code numbers (R176), the CV latch and FAULT words (R33,
R34), the fault field of the status word (R37), the fault-ACK counter (R32), and which snapshot fields the
active variant provides (R169). -/

namespace Sys2Proof.Machine

/-- The code of a status (R176). -/
def statusCode (st : Status) : Byte :=
  match st with
  | .ok => 0x00
  | .cvWidth => 0x10
  | .cvOffset => 0x11
  | .cvCobRange => 0x12
  | .cvNodeRange => 0x13
  | .cvSetpointRange => 0x14
  | .cvNoTelemetry => 0x15
  | .cvUnsupportedMode => 0x16
  | .cvLegacySecondaryNoEncoder => 0x17
  | .cvLength => 0x18
  | .cvFieldInvalid => 0x19
  | .cvConfigValue => 0x1A
  | .illegalOp => 0x1B
  | .fault => 0x30

/-- The number of a fault code (R176). -/
def faultCodeNumber (c : FaultCode) : Byte :=
  match c with
  | .legacyAmps => 0x01

/-- A status register word: bit 0 the flag, bits 15..8 the code, bits 7..1 zero (R33, R34). -/
def flagWord (flag : Bool) (code : Byte) : U16 := code ++ (if flag then 1#8 else 0#8)

/-- CV_STATUS (R33). -/
def cvStatus (s : State) : U16 := flagWord s.cvLatched s.cvFirstCode

/-- FAULT_STATUS (R34). -/
def faultStatus (s : State) : U16 := flagWord s.faulted s.faultCode

/-- Whether a status word has a fault bit set: `(status & 0x7F00) != 0` (R37, R133). -/
def hasFaultBits (status : U16) : Bool := decide (status &&& 0x7F00 ≠ 0)

/-- `min(count + 1, 0xFFFFFFFF)` (R32, R133). -/
def countUp (count : U32) : U32 := BitVec.ofNat 32 (min (count.toNat + 1) 0xFFFFFFFF)

/-- `VariantProvides(position)` (R169). -/
def providesPosition (c : CfgRegs) : Bool :=
  match c.protocol with
  | .legacy => c.encoderPresent
  | .canopenV2 => true

/-- `VariantProvides(speed)` (R169). -/
def providesSpeed (_ : CfgRegs) : Bool := true

/-- `VariantProvides(amps)` (R169). -/
def providesAmps (c : CfgRegs) : Bool := decide (c.protocol = .canopenV2)

/-- `VariantProvides(status word)` (R169). -/
def providesStatus (c : CfgRegs) : Bool := decide (c.protocol = .canopenV2)

/-- `VariantProvides(legacy fault/status)` (R169). -/
def providesLegacyFs (c : CfgRegs) : Bool := decide (c.protocol = .legacy)

end Sys2Proof.Machine
end

