-- ==== Sys2Proof/Machine/Ops.lean ====
section
/-! DEFINITION. The operations the meanings share: ending an operation, contract violations and faults (R177 to
R179), the transmit port (R14), the timers (R111 to R115), the telemetry-loss reset (R117), frame builders
(R96 to R99), and the command encoder (R148 to R158). -/

namespace Sys2Proof.Machine

open Host (Outcome)

/-! ## Ending an operation -/

/-- `result(status, value)` (R14, R41): the answer at the host port. -/
def respond (status : Status) (result : Result) (s : State) : State :=
  { s with response := ⟨status, result⟩ }

/-- `raise ContractViolation(code)` (R178): latch the first code, change nothing else, answer the code. -/
def raiseContractViolation (st : Status) (s : State) : State :=
  respond st .none
    { s with
      cvLatched := true
      cvFirstCode := if s.cvLatched then s.cvFirstCode else statusCode st }

/-- `raise Fault(code)` (R179): the writes already made stand, FAULTED and FAULT_CODE are set. -/
def raiseFault (c : FaultCode) (s : State) : State :=
  respond .fault .none { s with faulted := true, faultCode := faultCodeNumber c }

/-- What every operation but RESET does first: no step before the first RESET (R199), FAULT at once while
FAULTED is 1 (R177 item 1, R179), and otherwise its own effect. -/
def guarded (body : State → State) (s : State) : Outcome State Fault Refusal :=
  if s.initialised then
    .next (if s.faulted then respond .fault .none s else body s)
  else .refused .beforeFirstReset

/-! ## Transmit port -/

/-- `Send(cob_id, p)` (R14, R43): one event at the end of the trace; one answer drawn. -/
def transmit (cobId : CobId) (p : Payload) (s : State) : State :=
  { s with trace := s.trace ++ [⟨cobId, p⟩], sendDraws := s.sendDraws + 1 }

/-- The answer the transport gives to the next send (R14, R190). -/
def sendAnswer (s : State) : Bool := Config.sendOk s.sendDraws

/-- Send a frame and end with `result(OK, sent = ok)` (R97 to R99, R105). -/
def sendAndRespond (cobId : CobId) (p : Payload) (s : State) : State :=
  respond .ok (.sent (sendAnswer s)) (transmit cobId p s)

/-! ## Timers -/

/-- `expired(T)` (R111) with the tie draw as an argument. -/
def expired (start : U64) (interval : U32) (nowUs : U64) (tie : Bool) : Bool :=
  let elapsed := if start.toNat ≤ nowUs.toNat then nowUs.toNat - start.toNat else 0
  if interval.toNat < elapsed then true
  else if elapsed = interval.toNat then tie
  else false

/-- The tie draw of the next timer check (R111). -/
def tieDraw (s : State) : Bool := Config.timerTie s.tieDraws

/-- One timer check has been made: "one per evaluation" (R111). -/
def countCheck (s : State) : State := { s with tieDraws := s.tieDraws + 1 }

/-- `expired(H)` (R114). -/
def healthExpired (nowUs : U64) (s : State) : Bool :=
  expired s.healthStart s.cfg.healthTimeoutUs nowUs (tieDraw s)

/-- `expired(R)` (R115). -/
def rpdoExpired (nowUs : U64) (s : State) : Bool :=
  expired s.rpdoStart s.cfg.rpdoIntervalUs nowUs (tieDraw s)

/-- `restart(H)` (R112, R130). -/
def restartHealth (nowUs : U64) (s : State) : State := { s with healthStart := nowUs }

/-- `restart(R)` (R112, R118). -/
def restartRpdo (nowUs : U64) (s : State) : State := { s with rpdoStart := nowUs }

/-- `check_and_restart(R)` (R113): the state after it; whether it fired is `rpdoExpired` before it. -/
def checkAndRestartRpdo (nowUs : U64) (s : State) : State :=
  let s' := countCheck s
  if rpdoExpired nowUs s then restartRpdo nowUs s' else s'

/-! ## Telemetry loss -/

/-- `TelemetryLoss()` (R117). -/
def telemetryLoss (s : State) : State :=
  { s with telem := .noTelemetry, mode := .undefined, faultAckCount := 0 }

/-! ## Frame builders -/

/-- The SDO frame of R63: command byte, index, subindex, and `n` data bytes (R97, R98). -/
def buildSdo (cmd : Byte) (index : U16) (subindex : Byte) (n : Nat) (data : U32) : Payload :=
  let p := setByte zeroPayload 0 cmd
  let p := memWrite p 1 2 (index.setWidth 32)
  let p := setByte p 3 subindex
  memWrite p 4 n data

/-- The payload of `BuildRPDO` (R66, R99). -/
def buildRpdo (commandCode : U16) (offset w : Nat) (data : U32) : Payload :=
  memWrite (memWrite zeroPayload 0 2 (commandCode.setWidth 32)) offset w data

/-- `LegacyCmd(base)` for a node and a setpoint (R150). -/
def legacyCmd (base : Nat) (node : NodeId) (sp : U16) : TxEvent :=
  ⟨cobAt base node.toNat, buildRpdo sp 4 1 (node.setWidth 32)⟩

/-- A CANopenV2 command frame with 16-bit data (R68, R154 to R157). -/
def v2Cmd (node : NodeId) (code : U16) (offset : Nat) (sp : U16) : TxEvent :=
  ⟨cobAt rpdo1Base node.toNat, buildRpdo code offset 2 (sp.setWidth 32)⟩

/-- The fault-ACK frame (R133, R134). -/
def faultAckFrame (node : NodeId) : TxEvent :=
  ⟨cobAt rpdo1Base node.toNat, buildRpdo v2FaultAckCode 2 1 (Config.faultAckDummy.setWidth 32)⟩

/-! ## Command encoder -/

/-- What `EncodeCommand` gives (R148): no frame, a frame, or the unreachable arm. -/
inductive EncodedCommand where
  | noFrame
  | frame (e : TxEvent)
  | unreachable (c : FaultCode)
  deriving DecidableEq, Repr

/-- `EncodeCommand()` (R148 to R157). -/
def encodeCommand (s : State) : EncodedCommand :=
  match s.mode, s.cfg.protocol with
  | .undefined, _ => .noFrame
  | .position, .legacy => .frame (legacyCmd rpdo1Base s.cfg.nodeId s.setpoint)
  | .position, .canopenV2 => .frame (v2Cmd s.cfg.nodeId v2PositionCode 2 s.setpoint)
  | .speed, .legacy =>
      .frame (legacyCmd (if s.cfg.encoderPresent then rpdoLegacySpeedBase else rpdo1Base)
        s.cfg.nodeId s.setpoint)
  | .speed, .canopenV2 => .frame (v2Cmd s.cfg.nodeId v2SpeedCode 4 s.setpoint)
  | .amps, .legacy => .unreachable .legacyAmps
  | .amps, .canopenV2 => .frame (v2Cmd s.cfg.nodeId v2AmpsCode 6 s.setpoint)

/-- `EmitCommand()` (R158), ending the operation with `finish sent`: `none` when no frame is built, the
transport's answer when one is sent, and the fault of R153 on the unreachable arm. -/
def emitCommand (finish : Option Bool → State → State) (s : State) : State :=
  match encodeCommand s with
  | .noFrame => finish none s
  | .frame e => finish (some (sendAnswer s)) (transmit e.cobId e.payload s)
  | .unreachable c => raiseFault c s

end Sys2Proof.Machine
end

