-- ==== Sys2Proof/Machine/Codec.lean ====
section
/-! DEFINITION. The codec and the COB-ID decomposer (spec/40_codec.md): BF_HI, BF_LO, BF_SET_HI, BF_SET_LO,
SDO_WRITE, SDO_READ_REQ, RPDO_SEND, DECODE_COB_ID, DECODE_SDO_INDEX, DECODE_SDO_SUBINDEX. -/

namespace Sys2Proof.Machine

open Host (Outcome)

/-- The node and width checks of the SDO builders, in their order (R97, R98, R177). -/
def sdoChecked (node w : Byte) (body : State → State) (s : State) : State :=
  if 127 < node.toNat then raiseContractViolation .cvNodeRange s
  else if !widthOk w then raiseContractViolation .cvWidth s
  else body s

/-- SDO_WRITE (R97). -/
def execSdoWrite (node : Byte) (index : U16) (subindex w : Byte) (data : U32) (s : State) :
    Outcome State Fault Refusal :=
  guarded (sdoChecked node w (sendAndRespond (cobAt sdoReqBase node.toNat)
    (buildSdo (sdoWriteCmd w) index subindex w.toNat data))) s

/-- SDO_READ_REQ (R98): a read request carries no data. -/
def execSdoReadReq (node : Byte) (index : U16) (subindex w : Byte) (s : State) :
    Outcome State Fault Refusal :=
  guarded (sdoChecked node w (sendAndRespond (cobAt sdoReqBase node.toNat)
    (buildSdo (sdoReadCmd w) index subindex 0 0))) s

/-- `Check(node, channel_base, offset, w)` (R99), in its order. -/
def rpdoChecked (node : Byte) (channelBase : U16) (offset w : Byte) (body : State → State) (s : State) :
    State :=
  if 127 < node.toNat then raiseContractViolation .cvNodeRange s
  else if 0x7FF < channelBase.toNat + node.toNat then raiseContractViolation .cvCobRange s
  else if !widthOk w then raiseContractViolation .cvWidth s
  else if offset.toNat < 2 ∨ 8 < offset.toNat + w.toNat then raiseContractViolation .cvOffset s
  else body s

/-- RPDO_SEND (R99). -/
def execRpdoSend (node : Byte) (channelBase commandCode : U16) (offset w : Byte) (data : U32) (s : State) :
    Outcome State Fault Refusal :=
  guarded (rpdoChecked node channelBase offset w
    (sendAndRespond (cobAt channelBase.toNat node.toNat)
      (buildRpdo commandCode offset.toNat w.toNat data))) s

/-- DECODE_COB_ID (R100). -/
def execDecodeCobId (cobId : U16) (s : State) : Outcome State Fault Refusal :=
  guarded (fun s =>
    if 0x7FF < cobId.toNat then raiseContractViolation .cvCobRange s
    else respond .ok (.cobParts (cobId &&& fcMask) (cobId &&& nodeMask)) s) s

/-- DECODE_SDO_INDEX (R101). -/
def execDecodeSdoIndex (payload : Payload) (s : State) : Outcome State Fault Refusal :=
  guarded (respond .ok (.word (memRead16 payload 1))) s

/-- DECODE_SDO_SUBINDEX (R102). -/
def execDecodeSdoSubindex (payload : Payload) (s : State) : Outcome State Fault Refusal :=
  guarded (respond .ok (.byte (byteAt payload 3))) s

/-- BF_HI (R92). -/
def execBfHi (v : U16) (s : State) : Outcome State Fault Refusal :=
  guarded (respond .ok (.byte (v.extractLsb' 8 8))) s

/-- BF_LO (R93). -/
def execBfLo (v : U16) (s : State) : Outcome State Fault Refusal :=
  guarded (respond .ok (.byte (v.extractLsb' 0 8))) s

/-- BF_SET_HI (R94). -/
def execBfSetHi (v : U16) (b : Byte) (s : State) : Outcome State Fault Refusal :=
  guarded (respond .ok (.word (b ++ v.extractLsb' 0 8))) s

/-- BF_SET_LO (R95). -/
def execBfSetLo (v : U16) (b : Byte) (s : State) : Outcome State Fault Refusal :=
  guarded (respond .ok (.word (v.extractLsb' 8 8 ++ b))) s

end Sys2Proof.Machine
end

