-- ==== Sys2Proof/Machine/Commands.lean ====
section
/-! DEFINITION. Setters and halt (spec/43_controller_commands.md sections 1 and 3): SET_POSITION, SET_SPEED,
SET_AMPS, SET_UNDEFINED, HALT. -/

namespace Sys2Proof.Machine

open Host (Outcome)

/-- Switch the mode and store the setpoint, `result(OK)` (R143 to R145). -/
def acceptSetpoint (m : Mode) (sp : U16) (s : State) : State :=
  respond .ok .none { s with mode := m, setpoint := sp }

/-- SET_POSITION (R143): unsigned, inclusive limits. -/
def execSetPosition (sp : U16) (s : State) : Outcome State Fault Refusal :=
  guarded (fun s =>
    if inUnsignedRange s.cfg.posMin s.cfg.posMax sp then acceptSetpoint .position sp s
    else raiseContractViolation .cvSetpointRange s) s

/-- SET_SPEED (R144): signed, inclusive limits. -/
def execSetSpeed (sp : U16) (s : State) : Outcome State Fault Refusal :=
  guarded (fun s =>
    if inSignedRange s.cfg.speedMin s.cfg.speedMax sp then acceptSetpoint .speed sp s
    else raiseContractViolation .cvSetpointRange s) s

/-- SET_AMPS (R145): refused under Legacy before the range is looked at. -/
def execSetAmps (sp : U16) (s : State) : Outcome State Fault Refusal :=
  guarded (fun s =>
    match s.cfg.protocol with
    | .legacy => raiseContractViolation .cvUnsupportedMode s
    | .canopenV2 =>
      if inSignedRange s.cfg.ampsMin s.cfg.ampsMax sp then acceptSetpoint .amps sp s
      else raiseContractViolation .cvSetpointRange s) s

/-- SET_UNDEFINED (R146): the setpoint keeps its value. -/
def execSetUndefined (s : State) : Outcome State Fault Refusal :=
  guarded (fun s => respond .ok .none { s with mode := .undefined }) s

/-- The mode and setpoint after a halt (R159 to R161). -/
def neutralize (s : State) : State :=
  match s.telem, s.mode with
  | .noTelemetry, _ => { s with mode := .undefined }
  | .telemetryPresent, .position =>
    if s.snap.wPosition then { s with setpoint := s.snap.position } else { s with mode := .undefined }
  | .telemetryPresent, .speed => { s with setpoint := 0 }
  | .telemetryPresent, .amps => { s with setpoint := 0 }
  | .telemetryPresent, .undefined => s

/-- The halt and its emission (R159, R162): R is not restarted. -/
def haltBody (connected : Bool) (s : State) : State :=
  if connected then emitCommand (fun sent => respond .ok (.haltSent sent)) (neutralize s)
  else respond .ok (.haltSent none) (neutralize s)

/-- HALT (R159): reserved flag bits first (R83, R177 item 2). -/
def execHalt (flags : Byte) (s : State) : Outcome State Fault Refusal :=
  guarded (fun s =>
    if reservedFlagSet flags then raiseContractViolation .illegalOp s
    else haltBody (connectedFlag flags) s) s

end Sys2Proof.Machine
end

