-- ==== Sys2Proof/Machine/Getters.lean ====
section
/-! DEFINITION. Telemetry getters (spec/43_controller_commands.md section 4): GET_POSITION, GET_SPEED, GET_AMPS,
GET_STATUS_WORD, GET_LEGACY_FAULT_STATUS. -/

namespace Sys2Proof.Machine

open Host (Outcome)

/-- The getter contract (R163): telemetry state, then variant, then written bit. -/
def getter (provided written : Bool) (value : Result) (s : State) : State :=
  match s.telem with
  | .noTelemetry => raiseContractViolation .cvNoTelemetry s
  | .telemetryPresent =>
    if !provided then raiseContractViolation .cvFieldInvalid s
    else if !written then raiseContractViolation .cvFieldInvalid s
    else respond .ok value s

/-- GET_POSITION (R164). -/
def execGetPosition (s : State) : Outcome State Fault Refusal :=
  guarded (fun s => getter (providesPosition s.cfg) s.snap.wPosition (.word s.snap.position) s) s

/-- GET_SPEED (R165). -/
def execGetSpeed (s : State) : Outcome State Fault Refusal :=
  guarded (fun s => getter (providesSpeed s.cfg) s.snap.wSpeed (.signed (sext16 s.snap.speed)) s) s

/-- GET_AMPS (R166). -/
def execGetAmps (s : State) : Outcome State Fault Refusal :=
  guarded (fun s => getter (providesAmps s.cfg) s.snap.wAmps (.signed (sext16 s.snap.amps)) s) s

/-- GET_STATUS_WORD (R167). -/
def execGetStatusWord (s : State) : Outcome State Fault Refusal :=
  guarded (fun s => getter (providesStatus s.cfg) s.snap.wStatus (.word s.snap.status) s) s

/-- GET_LEGACY_FAULT_STATUS (R168). -/
def execGetLegacyFaultStatus (s : State) : Outcome State Fault Refusal :=
  guarded (fun s => getter (providesLegacyFs s.cfg) s.snap.wLegacyFs (.word s.snap.legacyFs) s) s

end Sys2Proof.Machine
end

