-- ==== Sys2Proof/Machine/Registers.lean ====
section
/-! DEFINITION. Register access, reconfiguration and reset (spec/43_controller_commands.md section 5,
spec/70_reset_and_hazards.md section 1): READ_REG, WRITE_CONFIG, RESET. -/

namespace Sys2Proof.Machine

open Host (Outcome)

/-- `zext_32(reg_value(reg))` (R170): the value of each numbered register (R20 to R34), none for an
unassigned number. -/
def regValue (reg : Byte) (s : State) : Option U32 :=
  match reg.toNat with
  | 0x00 => some (s.cfg.nodeId.setWidth 32)
  | 0x01 => some (protocolCode s.cfg.protocol)
  | 0x02 => some (if s.cfg.encoderPresent then 1 else 0)
  | 0x03 => some s.cfg.rpdoIntervalUs
  | 0x04 => some s.cfg.healthTimeoutUs
  | 0x05 => some (s.cfg.posMin.setWidth 32)
  | 0x06 => some (s.cfg.posMax.setWidth 32)
  | 0x07 => some (s.cfg.speedMin.setWidth 32)
  | 0x08 => some (s.cfg.speedMax.setWidth 32)
  | 0x09 => some (s.cfg.ampsMin.setWidth 32)
  | 0x0A => some (s.cfg.ampsMax.setWidth 32)
  | 0x10 => some (telemCode s.telem)
  | 0x11 => some (modeCode s.mode)
  | 0x12 => some (s.setpoint.setWidth 32)
  | 0x13 => some s.faultAckCount
  | 0x14 => some ((cvStatus s).setWidth 32)
  | 0x15 => some ((faultStatus s).setWidth 32)
  | _ => none

/-- READ_REG (R170). -/
def execReadReg (reg : Byte) (s : State) : Outcome State Fault Refusal :=
  guarded (fun s =>
    match regValue reg s with
    | some v => respond .ok (.reg v) s
    | none => raiseContractViolation .illegalOp s) s

/-- `reg[reg] <- value`, truncated to the register's width (R171), for an assigned register and a legal
value. -/
def writeConfigReg (reg : Byte) (value : U32) (c : CfgRegs) : CfgRegs :=
  match reg.toNat with
  | 0x00 => { c with nodeId := value.setWidth 7 }
  | 0x01 => { c with protocol := protocolOfBit (value.getLsbD 0) }
  | 0x02 => { c with encoderPresent := value.getLsbD 0 }
  | 0x03 => { c with rpdoIntervalUs := value }
  | 0x04 => { c with healthTimeoutUs := value }
  | 0x05 => { c with posMin := value.setWidth 16 }
  | 0x06 => { c with posMax := value.setWidth 16 }
  | 0x07 => { c with speedMin := value.setWidth 16 }
  | 0x08 => { c with speedMax := value.setWidth 16 }
  | 0x09 => { c with ampsMin := value.setWidth 16 }
  | 0x0A => { c with ampsMax := value.setWidth 16 }
  | _ => c

/-- The effect of WRITE_CONFIG (R171 to R174): register, then value, then the refusal of Legacy in Amps; node
id 0 also loses telemetry. -/
def writeConfigBody (reg : Byte) (value : U32) (s : State) : State :=
  if !configRegAssigned reg then raiseContractViolation .illegalOp s
  else if !configValueLegal reg value then raiseContractViolation .cvConfigValue s
  else if reg = 0x01 ∧ value = 0 ∧ s.mode = .amps then raiseContractViolation .cvUnsupportedMode s
  else
    let s := { s with cfg := writeConfigReg reg value s.cfg }
    if reg = 0x00 ∧ value = 0 then respond .ok .none (telemetryLoss s) else respond .ok .none s

/-- WRITE_CONFIG (R171). -/
def execWriteConfig (reg : Byte) (value : U32) (s : State) : Outcome State Fault Refusal :=
  guarded (writeConfigBody reg value) s

/-- The state after an accepted RESET (R196, R197). What the host has issued and the environment's draw
counters are not registers of the block and go on (notes/assumptions/15.md). -/
def resetState (c : CfgRegs) (nowUs : U64) (s : State) : State where
  cfg := c
  telem := .noTelemetry
  mode := .undefined
  setpoint := 0
  faultAckCount := 0
  cvLatched := false
  cvFirstCode := 0
  faulted := false
  faultCode := 0
  snap := Snapshot.cleared
  healthStart := nowUs
  rpdoStart := nowUs
  trace := []
  response := ⟨.ok, .none⟩
  port := s.port
  initialised := true
  sendDraws := s.sendDraws
  tieDraws := s.tieDraws

/-- RESET (R196): works whatever FAULTED is, and is the one operation before which none is needed (R199). -/
def execReset (nodeId protocol encoderPresent : Byte) (rpdoIntervalUs healthTimeoutUs : U32)
    (posMin posMax speedMin speedMax ampsMin ampsMax : U16) (nowUs : U64) (s : State) :
    Outcome State Fault Refusal :=
  .next (
    if 127 < nodeId.toNat ∨ 1 < protocol.toNat ∨ 1 < encoderPresent.toNat then
      raiseContractViolation .cvConfigValue s
    else
      resetState
        { nodeId := nodeId.setWidth 7
          protocol := protocolOfBit (protocol.getLsbD 0)
          encoderPresent := encoderPresent.getLsbD 0
          rpdoIntervalUs := rpdoIntervalUs
          healthTimeoutUs := healthTimeoutUs
          posMin := posMin
          posMax := posMax
          speedMin := speedMin
          speedMax := speedMax
          ampsMin := ampsMin
          ampsMax := ampsMax }
        nowUs s)

end Sys2Proof.Machine
end

