-- ==== Sys2Proof/Machine/Rx.lean ====
section
/-! DEFINITION. Frame ingestion and the fault-acknowledgment sequencer (spec/42_controller_rx.md): RX_FRAME, and
the four device-to-block wire rows, which are RX_FRAME's frames (notes/assumptions/11.md). -/

namespace Sys2Proof.Machine

open Host (Outcome)

/-- `result(OK, processed, ack)` (R123, R129). -/
def respondRx (processed : Bool) (ack : Option Bool) (s : State) : State :=
  respond .ok (.rx processed ack) s

/-! ## Parsers: the only writers of the snapshot (R35) -/

/-- `ParseLegacyPrimary(p)` (R131). -/
def parseLegacyPrimary (p : Payload) (s : State) : State :=
  if s.cfg.encoderPresent then
    { s with snap := { s.snap with position := memRead16 p 4, wPosition := true } }
  else { s with snap := { s.snap with speed := memRead16 p 4, wSpeed := true } }

/-- `ParseV2Primary(p)` (R132). -/
def parseV2Primary (p : Payload) (s : State) : State :=
  { s with
    snap := { s.snap with
      status := memRead16 p 0, wStatus := true
      position := memRead16 p 2, wPosition := true
      speed := memRead16 p 4, wSpeed := true
      amps := memRead16 p 6, wAmps := true } }

/-- `ParseLegacySecondary(p)` (R136). -/
def parseLegacySecondary (p : Payload) (s : State) : State :=
  { s with snap := { s.snap with speed := memRead16 p 4, wSpeed := true } }

/-- The tertiary word (R138). -/
def parseLegacyTertiary (p : Payload) (s : State) : State :=
  { s with snap := { s.snap with legacyFs := memRead16 p 0, wLegacyFs := true } }

/-! ## Channels -/

/-- `FaultAck()` (R133): one send, and the counter goes up whatever the transport answers. -/
def faultAck (s : State) : State :=
  let e := faultAckFrame s.cfg.nodeId
  let s := transmit e.cobId e.payload s
  { s with faultAckCount := countUp s.faultAckCount }

/-- Proof of life (R130). -/
def proofOfLife (nowUs : U64) (s : State) : State :=
  { restartHealth nowUs s with telem := .telemetryPresent }

/-- `Primary(full)` (R129). -/
def primary (full : Bool) (p : Payload) (nowUs : U64) (s : State) : State :=
  if full then
    match s.cfg.protocol with
    | .canopenV2 =>
      let s := parseV2Primary p s
      if hasFaultBits s.snap.status then respondRx true (some true) (proofOfLife nowUs (faultAck s))
      else respondRx true (some false) (proofOfLife nowUs s)
    | .legacy => respondRx true (some false) (proofOfLife nowUs (parseLegacyPrimary p s))
  else respondRx true (some false) s

/-- `Secondary(full)` (R135 to R137, R139). -/
def secondary (full : Bool) (p : Payload) (s : State) : State :=
  match s.cfg.protocol with
  | .canopenV2 => respondRx true none s
  | .legacy =>
    if !s.cfg.encoderPresent then raiseContractViolation .cvLegacySecondaryNoEncoder s
    else if full then respondRx true none (parseLegacySecondary p s)
    else respondRx true none s

/-- `Tertiary(full)` (R138, R139). -/
def tertiary (full : Bool) (p : Payload) (s : State) : State :=
  match s.cfg.protocol with
  | .canopenV2 => respondRx true none s
  | .legacy => if full then respondRx true none (parseLegacyTertiary p s) else respondRx true none s

/-- The node match of R124. -/
def frameIsMine (node : Nat) (s : State) : Bool :=
  decide (s.cfg.nodeId ≠ 0 ∧ node = s.cfg.nodeId.toNat)

/-- Frame ingestion (R123): length, identifier, node match, then dispatch on the function code. The
timestamp is not read (R141). -/
def ingest (sourceCobId : U16) (length : Byte) (p : Payload) (nowUs : U64) (s : State) : State :=
  if 8 < length.toNat then raiseContractViolation .cvLength s
  else if 0x7FF < sourceCobId.toNat then raiseContractViolation .cvCobRange s
  else if !frameIsMine (sourceCobId &&& nodeMask).toNat s then respondRx false none s
  else
    let full := decide (length = 8)
    match (sourceCobId &&& fcMask).toNat with
    | 0x180 => primary full p nowUs s
    | 0x280 => secondary full p s
    | 0x380 => tertiary full p s
    | 0x480 => respondRx true none s
    | _ => respondRx false none s

/-- The 16-bit identifier operand of a telemetry class and a node (R50). -/
def tpdoCobId (base : Nat) (node : NodeId) : U16 := BitVec.ofNat 16 (base + node.toNat)

/-- RX_FRAME (R123). -/
def execRxFrame (sourceCobId : U16) (length : Byte) (payload : Payload) (_timestamp nowUs : U64) (s : State) :
    Outcome State Fault Refusal :=
  guarded (ingest sourceCobId length payload nowUs) s

/-- TPDO_PRIMARY: the delivery of a frame with identifier 0x180 + node (R50, R129). -/
def execTpdoPrimary (node : NodeId) (length : Byte) (payload : Payload) (_timestamp nowUs : U64) (s : State) :
    Outcome State Fault Refusal :=
  guarded (ingest (tpdoCobId tpdo1Base node) length payload nowUs) s

/-- TPDO_SECONDARY: the delivery of a frame with identifier 0x280 + node (R50, R135). -/
def execTpdoSecondary (node : NodeId) (length : Byte) (payload : Payload) (_timestamp nowUs : U64)
    (s : State) : Outcome State Fault Refusal :=
  guarded (ingest (tpdoCobId tpdo2Base node) length payload nowUs) s

/-- TPDO_TERTIARY: the delivery of a frame with identifier 0x380 + node (R50, R138). -/
def execTpdoTertiary (node : NodeId) (length : Byte) (payload : Payload) (_timestamp nowUs : U64)
    (s : State) : Outcome State Fault Refusal :=
  guarded (ingest (tpdoCobId tpdo3Base node) length payload nowUs) s

/-- TPDO_QUATERNARY: the delivery of a frame with identifier 0x480 + node (R50, R127). -/
def execTpdoQuaternary (node : NodeId) (length : Byte) (payload : Payload) (_timestamp nowUs : U64)
    (s : State) : Outcome State Fault Refusal :=
  guarded (ingest (tpdoCobId tpdo4Base node) length payload nowUs) s

end Sys2Proof.Machine
end

