-- ==== Sys2Proof/Machine/Tick.lean ====
section
/-! DEFINITION. The controller tick (spec/41_controller_tick.md): EXECUTE. -/

namespace Sys2Proof.Machine

open Host (Outcome)

/-- Step 1 of the tick, disconnect (R116). -/
def tickDisconnect (connected : Bool) (s : State) : State × Loss :=
  if connected then (s, .none) else (telemetryLoss s, .disconnect)

/-- Step 2 of the tick, telemetry timeout (R116): evaluated, and a tie drawn, only while telemetry is
present; H is not restarted. -/
def tickTimeout (nowUs : U64) (loss : Loss) (s : State) : State × Loss :=
  match s.telem with
  | .noTelemetry => (s, loss)
  | .telemetryPresent =>
    if healthExpired nowUs s then (telemetryLoss (countCheck s), .timeout) else (countCheck s, loss)

/-- Step 3 of the tick, the periodic command, and the tick's result (R116, R118, R119). -/
def tickCommand (connected : Bool) (nowUs : U64) (loss : Loss) (s : State) : State :=
  let fired := rpdoExpired nowUs s
  let s' := checkAndRestartRpdo nowUs s
  if connected && decide (s.telem = .telemetryPresent) && fired then
    emitCommand (fun sent => respond .ok (.tick loss true sent)) s'
  else respond .ok (.tick loss fired none) s'

/-- The three steps in order (R116). -/
def tick (connected : Bool) (nowUs : U64) (s : State) : State :=
  let (s1, loss1) := tickDisconnect connected s
  let (s2, loss2) := tickTimeout nowUs loss1 s1
  tickCommand connected nowUs loss2 s2

/-- EXECUTE (R116): reserved flag bits first (R83, R177 item 2). -/
def execExecute (flags : Byte) (nowUs : U64) (s : State) : Outcome State Fault Refusal :=
  guarded (fun s =>
    if reservedFlagSet flags then raiseContractViolation .illegalOp s
    else tick (connectedFlag flags) nowUs s) s

end Sys2Proof.Machine
end

