-- ==== Sys2Proof/Machine/Wire.lean ====
section
/-! DEFINITION. The thirteen block-to-device wire rows of spec/opcode_table.json as operations: each sends its
frame, as the pseudo-instruction of R88 that expands to it does (notes/assumptions/11.md). Their node field
has 7 bits and their widths and offsets are fixed, so the checks of R97 to R99 always pass. -/

namespace Sys2Proof.Machine

open Host (Outcome)

/-- Send an SDO frame to 0x600 + node (R63, R97, R98). -/
def sendSdo (node : NodeId) (p : Payload) (s : State) : State :=
  sendAndRespond (cobAt sdoReqBase node.toNat) p s

/-- Send a command frame (R88, R150, R154 to R156). -/
def sendEvent (e : TxEvent) (s : State) : State := sendAndRespond e.cobId e.payload s

/-- SDO_DOWNLOAD_1B (R64, R97, R88 SDO_WRITE8). -/
def execSdoDownload1B (node : NodeId) (index : U16) (subindex data : Byte) (s : State) :
    Outcome State Fault Refusal :=
  guarded (sendSdo node (buildSdo (sdoWriteCmd 1) index subindex 1 (data.setWidth 32))) s

/-- SDO_DOWNLOAD_2B (R64, R97, R88 SDO_WRITE16). -/
def execSdoDownload2B (node : NodeId) (index : U16) (subindex : Byte) (data : U16) (s : State) :
    Outcome State Fault Refusal :=
  guarded (sendSdo node (buildSdo (sdoWriteCmd 2) index subindex 2 (data.setWidth 32))) s

/-- SDO_DOWNLOAD_4B (R64, R97, R88 SDO_WRITE32). -/
def execSdoDownload4B (node : NodeId) (index : U16) (subindex : Byte) (data : U32) (s : State) :
    Outcome State Fault Refusal :=
  guarded (sendSdo node (buildSdo (sdoWriteCmd 4) index subindex 4 data)) s

/-- SDO_UPLOAD_REQ_1B (R64, R98, R88 SDO_READ8). -/
def execSdoUploadReq1B (node : NodeId) (index : U16) (subindex : Byte) (s : State) :
    Outcome State Fault Refusal :=
  guarded (sendSdo node (buildSdo (sdoReadCmd 1) index subindex 0 0)) s

/-- SDO_UPLOAD_REQ_2B (R64, R98, R88 SDO_READ16). -/
def execSdoUploadReq2B (node : NodeId) (index : U16) (subindex : Byte) (s : State) :
    Outcome State Fault Refusal :=
  guarded (sendSdo node (buildSdo (sdoReadCmd 2) index subindex 0 0)) s

/-- SDO_UPLOAD_REQ_4B (R64, R98, R88 SDO_READ32). -/
def execSdoUploadReq4B (node : NodeId) (index : U16) (subindex : Byte) (s : State) :
    Outcome State Fault Refusal :=
  guarded (sendSdo node (buildSdo (sdoReadCmd 4) index subindex 0 0)) s

/-- V2_CMD_POSITION (R68, R154, R88 V2_POS). -/
def execV2CmdPosition (node : NodeId) (sp : U16) (s : State) : Outcome State Fault Refusal :=
  guarded (sendEvent (v2Cmd node v2PositionCode 2 sp)) s

/-- V2_CMD_SPEED (R68, R155, R88 V2_SPEED). -/
def execV2CmdSpeed (node : NodeId) (sp : U16) (s : State) : Outcome State Fault Refusal :=
  guarded (sendEvent (v2Cmd node v2SpeedCode 4 sp)) s

/-- V2_CMD_AMPS (R68, R156, R88 V2_AMPS). -/
def execV2CmdAmps (node : NodeId) (sp : U16) (s : State) : Outcome State Fault Refusal :=
  guarded (sendEvent (v2Cmd node v2AmpsCode 6 sp)) s

/-- V2_FAULT_ACK (R68, R134, R88 V2_FAULT_ACK): the frame alone; the counter of R133 is the controller's. -/
def execV2FaultAck (node : NodeId) (s : State) : Outcome State Fault Refusal :=
  guarded (sendEvent (faultAckFrame node)) s

/-- LEGACY_CMD_POSITION (R67, R151, R88 LEGACY_CMD). -/
def execLegacyCmdPosition (node : NodeId) (sp : U16) (s : State) : Outcome State Fault Refusal :=
  guarded (sendEvent (legacyCmd rpdo1Base node sp)) s

/-- LEGACY_CMD_SPEED_ENCODER (R67, R152, R88 LEGACY_CMD). -/
def execLegacyCmdSpeedEncoder (node : NodeId) (sp : U16) (s : State) : Outcome State Fault Refusal :=
  guarded (sendEvent (legacyCmd rpdoLegacySpeedBase node sp)) s

/-- LEGACY_CMD_SPEED_NO_ENCODER (R67, R152, R88 LEGACY_CMD). -/
def execLegacyCmdSpeedNoEncoder (node : NodeId) (sp : U16) (s : State) : Outcome State Fault Refusal :=
  guarded (sendEvent (legacyCmd rpdo1Base node sp)) s

end Sys2Proof.Machine
end

