-- ==== Sys2Proof/Machine/Dispatch.lean ====
section
/-! DEFINITION. One arm per row of spec/opcode_table.json. -/

namespace Sys2Proof.Machine

/-- The meaning of each instruction. -/
def exec (i : Instr) (s : State) : Host.Outcome State Fault Refusal :=
  match i with
  | .sdoWrite node index subindex w data => Sys2Proof.Machine.execSdoWrite node index subindex w data s
  | .sdoReadReq node index subindex w => Sys2Proof.Machine.execSdoReadReq node index subindex w s
  | .rpdoSend node channelBase commandCode offset w data => Sys2Proof.Machine.execRpdoSend node channelBase commandCode offset w data s
  | .decodeCobId cobId => Sys2Proof.Machine.execDecodeCobId cobId s
  | .decodeSdoIndex payload => Sys2Proof.Machine.execDecodeSdoIndex payload s
  | .decodeSdoSubindex payload => Sys2Proof.Machine.execDecodeSdoSubindex payload s
  | .bfHi v => Sys2Proof.Machine.execBfHi v s
  | .bfLo v => Sys2Proof.Machine.execBfLo v s
  | .bfSetHi v b => Sys2Proof.Machine.execBfSetHi v b s
  | .bfSetLo v b => Sys2Proof.Machine.execBfSetLo v b s
  | .execute flags nowUs => Sys2Proof.Machine.execExecute flags nowUs s
  | .rxFrame sourceCobId length payload timestamp nowUs => Sys2Proof.Machine.execRxFrame sourceCobId length payload timestamp nowUs s
  | .setPosition sp => Sys2Proof.Machine.execSetPosition sp s
  | .setSpeed sp => Sys2Proof.Machine.execSetSpeed sp s
  | .setAmps sp => Sys2Proof.Machine.execSetAmps sp s
  | .setUndefined => Sys2Proof.Machine.execSetUndefined s
  | .halt flags => Sys2Proof.Machine.execHalt flags s
  | .getPosition => Sys2Proof.Machine.execGetPosition s
  | .getSpeed => Sys2Proof.Machine.execGetSpeed s
  | .getAmps => Sys2Proof.Machine.execGetAmps s
  | .getStatusWord => Sys2Proof.Machine.execGetStatusWord s
  | .getLegacyFaultStatus => Sys2Proof.Machine.execGetLegacyFaultStatus s
  | .readReg reg => Sys2Proof.Machine.execReadReg reg s
  | .writeConfig reg value => Sys2Proof.Machine.execWriteConfig reg value s
  | .reset nodeId protocol encoderPresent rpdoIntervalUs healthTimeoutUs posMin posMax speedMin speedMax ampsMin ampsMax nowUs => Sys2Proof.Machine.execReset nodeId protocol encoderPresent rpdoIntervalUs healthTimeoutUs posMin posMax speedMin speedMax ampsMin ampsMax nowUs s
  | .sdoDownload1B node index subindex data => Sys2Proof.Machine.execSdoDownload1B node index subindex data s
  | .sdoDownload2B node index subindex data => Sys2Proof.Machine.execSdoDownload2B node index subindex data s
  | .sdoDownload4B node index subindex data => Sys2Proof.Machine.execSdoDownload4B node index subindex data s
  | .sdoUploadReq1B node index subindex => Sys2Proof.Machine.execSdoUploadReq1B node index subindex s
  | .sdoUploadReq2B node index subindex => Sys2Proof.Machine.execSdoUploadReq2B node index subindex s
  | .sdoUploadReq4B node index subindex => Sys2Proof.Machine.execSdoUploadReq4B node index subindex s
  | .v2CmdPosition node sp => Sys2Proof.Machine.execV2CmdPosition node sp s
  | .v2CmdSpeed node sp => Sys2Proof.Machine.execV2CmdSpeed node sp s
  | .v2CmdAmps node sp => Sys2Proof.Machine.execV2CmdAmps node sp s
  | .v2FaultAck node => Sys2Proof.Machine.execV2FaultAck node s
  | .legacyCmdPosition node sp => Sys2Proof.Machine.execLegacyCmdPosition node sp s
  | .legacyCmdSpeedEncoder node sp => Sys2Proof.Machine.execLegacyCmdSpeedEncoder node sp s
  | .legacyCmdSpeedNoEncoder node sp => Sys2Proof.Machine.execLegacyCmdSpeedNoEncoder node sp s
  | .tpdoPrimary node length payload timestamp nowUs => Sys2Proof.Machine.execTpdoPrimary node length payload timestamp nowUs s
  | .tpdoSecondary node length payload timestamp nowUs => Sys2Proof.Machine.execTpdoSecondary node length payload timestamp nowUs s
  | .tpdoTertiary node length payload timestamp nowUs => Sys2Proof.Machine.execTpdoTertiary node length payload timestamp nowUs s
  | .tpdoQuaternary node length payload timestamp nowUs => Sys2Proof.Machine.execTpdoQuaternary node length payload timestamp nowUs s

end Sys2Proof.Machine
end

