-- ==== Sys2Proof/Decode.lean ====
section
/-! DEFINITION. The two encodings of spec/30_encoding.md: the decoder, total on any port contents and refusing
by name, and after it the encoder, each written from the tables R63 to R81 and R89. -/

namespace Sys2Proof

/-! ## Decoder -/

/-- Why the port's contents give no instruction. -/
inductive DecodeError where
  /-- Nothing has been issued. -/
  | empty
  /-- The command with this opcode is not complete yet (R85: its length follows from its opcode). -/
  | truncated (op : Byte)
  /-- Another operation was issued inside the command with this opcode (R201). -/
  | interrupted (op : Byte)
  /-- One of the 231 unassigned opcodes (R82). -/
  | unassignedOpcode (op : Byte) (rest : List PortItem)
  /-- A frame that matches no row of its format (R77, R89). -/
  | noWireRow (f : Frame) (rest : List PortItem)
  deriving DecidableEq, Repr

/-- Two bytes, low byte first (R79). -/
def le16 (b0 b1 : Byte) : U16 := b1 ++ b0

/-- Four bytes, low byte first, from their two halves (R79). -/
def le32 (lo hi : U16) : U32 := hi ++ lo

/-- Eight bytes, low byte first, from their two halves (R79). -/
def le64 (lo hi : U32) : U64 := hi ++ lo

/-- The next argument byte of the command with opcode `op`. -/
def readU8 (op : Byte) : List PortItem → Except DecodeError (Byte × List PortItem)
  | [] => .error (.truncated op)
  | .frame _ :: _ => .error (.interrupted op)
  | .byte b :: r => .ok (b, r)

/-- The next 16-bit argument (R79). -/
def readU16 (op : Byte) (r : List PortItem) : Except DecodeError (U16 × List PortItem) := do
  let (b0, r) ← readU8 op r
  let (b1, r) ← readU8 op r
  return (le16 b0 b1, r)

/-- The next 32-bit argument (R79). -/
def readU32 (op : Byte) (r : List PortItem) : Except DecodeError (U32 × List PortItem) := do
  let (lo, r) ← readU16 op r
  let (hi, r) ← readU16 op r
  return (le32 lo hi, r)

/-- The next 64-bit argument (R79). -/
def readU64 (op : Byte) (r : List PortItem) : Except DecodeError (U64 × List PortItem) := do
  let (lo, r) ← readU32 op r
  let (hi, r) ← readU32 op r
  return (le64 lo hi, r)

/-- The next eight payload bytes, byte 0 first (R80 PAY, RX). -/
def readPayload (op : Byte) (r : List PortItem) : Except DecodeError (Payload × List PortItem) := do
  let (b0, r) ← readU8 op r
  let (b1, r) ← readU8 op r
  let (b2, r) ← readU8 op r
  let (b3, r) ← readU8 op r
  let (b4, r) ← readU8 op r
  let (b5, r) ← readU8 op r
  let (b6, r) ← readU8 op r
  let (b7, r) ← readU8 op r
  return (⟨b0, b1, b2, b3, b4, b5, b6, b7⟩, r)

/-- The arguments of the command with opcode `op`: the opcode map R81 over the formats R80. -/
def decodeHost (op : Byte) (r : List PortItem) : Except DecodeError (Instr × List PortItem) :=
  match op.toNat with
  | 0x01 => do
    let (node, r) ← readU8 op r
    let (index, r) ← readU16 op r
    let (subindex, r) ← readU8 op r
    let (w, r) ← readU8 op r
    let (data, r) ← readU32 op r
    return (.sdoWrite node index subindex w data, r)
  | 0x02 => do
    let (node, r) ← readU8 op r
    let (index, r) ← readU16 op r
    let (subindex, r) ← readU8 op r
    let (w, r) ← readU8 op r
    return (.sdoReadReq node index subindex w, r)
  | 0x03 => do
    let (node, r) ← readU8 op r
    let (channelBase, r) ← readU16 op r
    let (commandCode, r) ← readU16 op r
    let (offset, r) ← readU8 op r
    let (w, r) ← readU8 op r
    let (data, r) ← readU32 op r
    return (.rpdoSend node channelBase commandCode offset w data, r)
  | 0x04 => do
    let (cobId, r) ← readU16 op r
    return (.decodeCobId cobId, r)
  | 0x05 => do
    let (payload, r) ← readPayload op r
    return (.decodeSdoIndex payload, r)
  | 0x06 => do
    let (payload, r) ← readPayload op r
    return (.decodeSdoSubindex payload, r)
  | 0x08 => do
    let (v, r) ← readU16 op r
    return (.bfHi v, r)
  | 0x09 => do
    let (v, r) ← readU16 op r
    return (.bfLo v, r)
  | 0x0A => do
    let (v, r) ← readU16 op r
    let (b, r) ← readU8 op r
    return (.bfSetHi v b, r)
  | 0x0B => do
    let (v, r) ← readU16 op r
    let (b, r) ← readU8 op r
    return (.bfSetLo v b, r)
  | 0x10 => do
    let (flags, r) ← readU8 op r
    let (nowUs, r) ← readU64 op r
    return (.execute flags nowUs, r)
  | 0x11 => do
    let (sourceCobId, r) ← readU16 op r
    let (length, r) ← readU8 op r
    let (payload, r) ← readPayload op r
    let (timestamp, r) ← readU64 op r
    let (nowUs, r) ← readU64 op r
    return (.rxFrame sourceCobId length payload timestamp nowUs, r)
  | 0x20 => do
    let (sp, r) ← readU16 op r
    return (.setPosition sp, r)
  | 0x21 => do
    let (sp, r) ← readU16 op r
    return (.setSpeed sp, r)
  | 0x22 => do
    let (sp, r) ← readU16 op r
    return (.setAmps sp, r)
  | 0x23 => .ok (.setUndefined, r)
  | 0x24 => do
    let (flags, r) ← readU8 op r
    return (.halt flags, r)
  | 0x30 => .ok (.getPosition, r)
  | 0x31 => .ok (.getSpeed, r)
  | 0x32 => .ok (.getAmps, r)
  | 0x33 => .ok (.getStatusWord, r)
  | 0x34 => .ok (.getLegacyFaultStatus, r)
  | 0x38 => do
    let (reg, r) ← readU8 op r
    return (.readReg reg, r)
  | 0x39 => do
    let (reg, r) ← readU8 op r
    let (value, r) ← readU32 op r
    return (.writeConfig reg value, r)
  | 0xF0 => do
    let (nodeId, r) ← readU8 op r
    let (protocol, r) ← readU8 op r
    let (encoderPresent, r) ← readU8 op r
    let (rpdoIntervalUs, r) ← readU32 op r
    let (healthTimeoutUs, r) ← readU32 op r
    let (posMin, r) ← readU16 op r
    let (posMax, r) ← readU16 op r
    let (speedMin, r) ← readU16 op r
    let (speedMax, r) ← readU16 op r
    let (ampsMin, r) ← readU16 op r
    let (ampsMax, r) ← readU16 op r
    let (nowUs, r) ← readU64 op r
    return (.reset nodeId protocol encoderPresent rpdoIntervalUs healthTimeoutUs posMin posMax
      speedMin speedMax ampsMin ampsMax nowUs, r)
  | _ => .error (.unassignedOpcode op r)

/-- The node field of a COB-ID, bits 6..0 (R61). -/
def cobNode (cobId : CobId) : NodeId := cobId.extractLsb' 0 7

/-- The class of a COB-ID, its function code in place (R62). -/
def cobClass (cobId : CobId) : CobId := cobId &&& 0x780#11

/-- `WIRE_SDO` rows: SDO requests on 0x600 + node, keyed by the command byte (R63, R64). -/
def decodeSdoFrame (f : Frame) (r : List PortItem) : Except DecodeError (Instr × List PortItem) :=
  let n := cobNode f.cobId
  let p := f.payload
  let index := le16 p.b1 p.b2
  if cobClass f.cobId = 0x600#11 then
    if p.b0 = 0x2F#8 then .ok (.sdoDownload1B n index p.b3 p.b4, r)
    else if p.b0 = 0x2B#8 then .ok (.sdoDownload2B n index p.b3 (le16 p.b4 p.b5), r)
    else if p.b0 = 0x23#8 then
      .ok (.sdoDownload4B n index p.b3 (le32 (le16 p.b4 p.b5) (le16 p.b6 p.b7)), r)
    else if p.b0 = 0x4F#8 then .ok (.sdoUploadReq1B n index p.b3, r)
    else if p.b0 = 0x4B#8 then .ok (.sdoUploadReq2B n index p.b3, r)
    else if p.b0 = 0x43#8 then .ok (.sdoUploadReq4B n index p.b3, r)
    else .error (.noWireRow f r)
  else .error (.noWireRow f r)

/-- `WIRE_RPDO_V2` rows: commands on 0x200 + node, keyed by the command code (R68). -/
def decodeV2Frame (f : Frame) (r : List PortItem) : Except DecodeError (Instr × List PortItem) :=
  let n := cobNode f.cobId
  let p := f.payload
  let code := le16 p.b0 p.b1
  if cobClass f.cobId = 0x200#11 then
    if code = 0x0021#16 then .ok (.v2CmdPosition n (le16 p.b2 p.b3), r)
    else if code = 0x0005#16 then .ok (.v2CmdSpeed n (le16 p.b4 p.b5), r)
    else if code = 0x0001#16 then .ok (.v2CmdAmps n (le16 p.b6 p.b7), r)
    else if code = 0x0002#16 then .ok (.v2FaultAck n, r)
    else .error (.noWireRow f r)
  else .error (.noWireRow f r)

/-- `WIRE_RPDO_LEGACY` rows, keyed by the identifier's class (R67). Class 0x200 is the Position row: the frame
is identical on the wire to a Speed frame without an encoder. -/
def decodeLegacyFrame (f : Frame) (r : List PortItem) : Except DecodeError (Instr × List PortItem) :=
  let n := cobNode f.cobId
  let sp := le16 f.payload.b0 f.payload.b1
  if cobClass f.cobId = 0x200#11 then .ok (.legacyCmdPosition n sp, r)
  else if cobClass f.cobId = 0x300#11 then .ok (.legacyCmdSpeedEncoder n sp, r)
  else .error (.noWireRow f r)

/-- `WIRE_TPDO` rows, keyed by the identifier's class (R70 to R74). -/
def decodeTpdoFrame (f : Frame) (r : List PortItem) : Except DecodeError (Instr × List PortItem) :=
  let n := cobNode f.cobId
  if cobClass f.cobId = 0x180#11 then .ok (.tpdoPrimary n f.length f.payload f.timestamp f.nowUs, r)
  else if cobClass f.cobId = 0x280#11 then .ok (.tpdoSecondary n f.length f.payload f.timestamp f.nowUs, r)
  else if cobClass f.cobId = 0x380#11 then .ok (.tpdoTertiary n f.length f.payload f.timestamp f.nowUs, r)
  else if cobClass f.cobId = 0x480#11 then .ok (.tpdoQuaternary n f.length f.payload f.timestamp f.nowUs, r)
  else .error (.noWireRow f r)

/-- The instruction of a frame: its row is chosen by the key of its format (R89) and its fields are read where
R63 to R74 put them. Bytes no field names are not looked at (R77), nor is the fault-ACK's dummy byte. -/
def decodeFrame (f : Frame) (r : List PortItem) : Except DecodeError (Instr × List PortItem) :=
  match f.format with
  | .sdo => decodeSdoFrame f r
  | .rpdoV2 => decodeV2Frame f r
  | .rpdoLegacy => decodeLegacyFrame f r
  | .tpdo => decodeTpdoFrame f r

/-- The first instruction at the port and what follows it. -/
def decode : List PortItem → Except DecodeError (Instr × List PortItem)
  | [] => .error .empty
  | .byte op :: r => decodeHost op r
  | .frame f :: r => decodeFrame f r

/-! ## Encoder -/

/-- A 16-bit value as two bytes, low byte first (R53). -/
def bytes16 (v : U16) : List Byte := [v.extractLsb' 0 8, v.extractLsb' 8 8]

/-- A 32-bit value as four bytes, low byte first (R53). -/
def bytes32 (v : U32) : List Byte := bytes16 (v.extractLsb' 0 16) ++ bytes16 (v.extractLsb' 16 16)

/-- A 64-bit value as eight bytes, low byte first (R53). -/
def bytes64 (v : U64) : List Byte := bytes32 (v.extractLsb' 0 32) ++ bytes32 (v.extractLsb' 32 32)

/-- The eight bytes of a payload in order. -/
def payloadBytes (p : Payload) : List Byte := [p.b0, p.b1, p.b2, p.b3, p.b4, p.b5, p.b6, p.b7]

/-- A host command's bytes as port items. -/
def hostItems (bytes : List Byte) : List PortItem := bytes.map .byte

/-- The identifier `base + node` of a class whose low seven bits are zero (R50). -/
def cobOf (base : CobId) (node : NodeId) : CobId := base + node.setWidth 11

/-- A frame the block sends: 8 bytes, and no reception data (R47). -/
def sentFrame (format : WireFormat) (cobId : CobId) (p : Payload) : List PortItem :=
  [.frame ⟨format, cobId, 8, p, 0, 0⟩]

/-- The SDO frame of R63 with command byte `cmd` and data bytes 4 to 7. -/
def sdoFrame (node : NodeId) (cmd : Byte) (index : U16) (subindex : Byte) (d0 d1 d2 d3 : Byte) :
    List PortItem :=
  sentFrame .sdo (cobOf 0x600 node)
    ⟨cmd, index.extractLsb' 0 8, index.extractLsb' 8 8, subindex, d0, d1, d2, d3⟩

/-- The Legacy command frame of R67. -/
def legacyFrame (base : CobId) (node : NodeId) (sp : U16) : List PortItem :=
  sentFrame .rpdoLegacy (cobOf base node)
    ⟨sp.extractLsb' 0 8, sp.extractLsb' 8 8, 0, 0, node.setWidth 8, 0, 0, 0⟩

/-- The words of an instruction: R80 and R81 for the host operations, R63 to R74 for the wire rows. -/
def encode : Instr → List PortItem
  | .sdoWrite node index subindex w data =>
      hostItems ([0x01, node] ++ bytes16 index ++ [subindex, w] ++ bytes32 data)
  | .sdoReadReq node index subindex w => hostItems ([0x02, node] ++ bytes16 index ++ [subindex, w])
  | .rpdoSend node channelBase commandCode offset w data =>
      hostItems ([0x03, node] ++ bytes16 channelBase ++ bytes16 commandCode ++ [offset, w] ++ bytes32 data)
  | .decodeCobId cobId => hostItems ([0x04] ++ bytes16 cobId)
  | .decodeSdoIndex payload => hostItems ([0x05] ++ payloadBytes payload)
  | .decodeSdoSubindex payload => hostItems ([0x06] ++ payloadBytes payload)
  | .bfHi v => hostItems ([0x08] ++ bytes16 v)
  | .bfLo v => hostItems ([0x09] ++ bytes16 v)
  | .bfSetHi v b => hostItems ([0x0A] ++ bytes16 v ++ [b])
  | .bfSetLo v b => hostItems ([0x0B] ++ bytes16 v ++ [b])
  | .execute flags nowUs => hostItems ([0x10, flags] ++ bytes64 nowUs)
  | .rxFrame sourceCobId length payload timestamp nowUs =>
      hostItems ([0x11] ++ bytes16 sourceCobId ++ [length] ++ payloadBytes payload ++
        bytes64 timestamp ++ bytes64 nowUs)
  | .setPosition sp => hostItems ([0x20] ++ bytes16 sp)
  | .setSpeed sp => hostItems ([0x21] ++ bytes16 sp)
  | .setAmps sp => hostItems ([0x22] ++ bytes16 sp)
  | .setUndefined => hostItems [0x23]
  | .halt flags => hostItems [0x24, flags]
  | .getPosition => hostItems [0x30]
  | .getSpeed => hostItems [0x31]
  | .getAmps => hostItems [0x32]
  | .getStatusWord => hostItems [0x33]
  | .getLegacyFaultStatus => hostItems [0x34]
  | .readReg reg => hostItems [0x38, reg]
  | .writeConfig reg value => hostItems ([0x39, reg] ++ bytes32 value)
  | .reset nodeId protocol encoderPresent rpdoIntervalUs healthTimeoutUs posMin posMax speedMin speedMax
      ampsMin ampsMax nowUs =>
      hostItems ([0xF0, nodeId, protocol, encoderPresent] ++ bytes32 rpdoIntervalUs ++
        bytes32 healthTimeoutUs ++ bytes16 posMin ++ bytes16 posMax ++ bytes16 speedMin ++
        bytes16 speedMax ++ bytes16 ampsMin ++ bytes16 ampsMax ++ bytes64 nowUs)
  | .sdoDownload1B node index subindex data => sdoFrame node 0x2F index subindex data 0 0 0
  | .sdoDownload2B node index subindex data =>
      sdoFrame node 0x2B index subindex (data.extractLsb' 0 8) (data.extractLsb' 8 8) 0 0
  | .sdoDownload4B node index subindex data =>
      sdoFrame node 0x23 index subindex (data.extractLsb' 0 8) (data.extractLsb' 8 8)
        (data.extractLsb' 16 8) (data.extractLsb' 24 8)
  | .sdoUploadReq1B node index subindex => sdoFrame node 0x4F index subindex 0 0 0 0
  | .sdoUploadReq2B node index subindex => sdoFrame node 0x4B index subindex 0 0 0 0
  | .sdoUploadReq4B node index subindex => sdoFrame node 0x43 index subindex 0 0 0 0
  | .v2CmdPosition node sp =>
      sentFrame .rpdoV2 (cobOf 0x200 node) ⟨0x21, 0, sp.extractLsb' 0 8, sp.extractLsb' 8 8, 0, 0, 0, 0⟩
  | .v2CmdSpeed node sp =>
      sentFrame .rpdoV2 (cobOf 0x200 node) ⟨0x05, 0, 0, 0, sp.extractLsb' 0 8, sp.extractLsb' 8 8, 0, 0⟩
  | .v2CmdAmps node sp =>
      sentFrame .rpdoV2 (cobOf 0x200 node) ⟨0x01, 0, 0, 0, 0, 0, sp.extractLsb' 0 8, sp.extractLsb' 8 8⟩
  | .v2FaultAck node =>
      sentFrame .rpdoV2 (cobOf 0x200 node) ⟨0x02, 0, Config.faultAckDummy, 0, 0, 0, 0, 0⟩
  | .legacyCmdPosition node sp => legacyFrame 0x200 node sp
  | .legacyCmdSpeedEncoder node sp => legacyFrame 0x300 node sp
  | .legacyCmdSpeedNoEncoder node sp => legacyFrame 0x200 node sp
  | .tpdoPrimary node length payload timestamp nowUs =>
      [.frame ⟨.tpdo, cobOf 0x180 node, length, payload, timestamp, nowUs⟩]
  | .tpdoSecondary node length payload timestamp nowUs =>
      [.frame ⟨.tpdo, cobOf 0x280 node, length, payload, timestamp, nowUs⟩]
  | .tpdoTertiary node length payload timestamp nowUs =>
      [.frame ⟨.tpdo, cobOf 0x380 node, length, payload, timestamp, nowUs⟩]
  | .tpdoQuaternary node length payload timestamp nowUs =>
      [.frame ⟨.tpdo, cobOf 0x480 node, length, payload, timestamp, nowUs⟩]

/-! ## The opcode table's words -/

/-- The length in bytes of the host command with this opcode (R80, R81, R85); 0 for an unassigned opcode. -/
def hostLength (op : Byte) : Nat :=
  match op.toNat with
  | 0x01 => 10
  | 0x02 => 6
  | 0x03 => 12
  | 0x04 => 3
  | 0x05 => 9
  | 0x06 => 9
  | 0x08 => 3
  | 0x09 => 3
  | 0x0A => 4
  | 0x0B => 4
  | 0x10 => 10
  | 0x11 => 28
  | 0x20 => 3
  | 0x21 => 3
  | 0x22 => 3
  | 0x23 => 1
  | 0x24 => 2
  | 0x30 => 1
  | 0x31 => 1
  | 0x32 => 1
  | 0x33 => 1
  | 0x34 => 1
  | 0x38 => 2
  | 0x39 => 6
  | 0xF0 => 32
  | _ => 0

/-- Byte k of a number whose bit 0 is the least significant bit of byte 0. -/
def byteOf (w k : Nat) : Byte := BitVec.ofNat 8 (w >>> (8 * k))

/-- The host command whose first `n` bytes are those of `w`, the rest zero, cut to its opcode's length. -/
def hostWord (n w : Nat) : List PortItem :=
  let bytes := (List.range n).map (byteOf w) ++ List.replicate 31 0
  hostItems (bytes.take (max 1 (hostLength (byteOf w 0))))

/-- The six SDO command bytes (R64), the keys of the WIRE_SDO rows. -/
def sdoCommandBytes : List Byte := [0x2F, 0x2B, 0x23, 0x4F, 0x4B, 0x43]

/-- The payload whose first two bytes are those of `w` and whose other bytes are zero. -/
def keyPayload (w : Nat) : Payload := ⟨byteOf w 0, byteOf w 1, 0, 0, 0, 0, 0, 0⟩

/-- Opcode-table word as port contents. A word of one byte is an opcode, or else an SDO command byte; a word
of two bytes that fits in 11 bits is a COB-ID of a class, or, in class 0, a V2 command code (R89). Every bit
above the key is zero. notes/assumptions/13.md names the keys that two rows share. -/
def tableWord (nbits w : Nat) : List PortItem :=
  if nbits = 8 ∧ hostLength (byteOf w 0) = 0 ∧ byteOf w 0 ∈ sdoCommandBytes then
    sentFrame .sdo 0x600 (keyPayload (w % 256))
  else if nbits = 16 ∧ w < 0x800 then
    match w &&& 0x780 with
    | 0 => sentFrame .rpdoV2 0x200 (keyPayload w)
    | 0x200 => sentFrame .rpdoLegacy (BitVec.ofNat 11 w) (keyPayload 0)
    | 0x300 => sentFrame .rpdoLegacy (BitVec.ofNat 11 w) (keyPayload 0)
    | _ => [.frame ⟨.tpdo, BitVec.ofNat 11 w, 0, keyPayload 0, 0, 0⟩]
  else hostWord ((nbits + 7) / 8) w

/-- The instruction the decoder reads from an opcode-table word. -/
def decodeTableWord (nbits w : Nat) : Option Instr :=
  match decode (tableWord nbits w) with
  | .ok (i, _) => some i
  | .error _ => none

end Sys2Proof
end

