-- ==== Sys2Proof/Machine/Fetch.lean ====
section
/-! DEFINITION. What the block does when the port's contents give no instruction: no command, an incomplete one,
an illegal opcode (R82, R189), an overlapping issue (R201), or a frame of no wire row (R77, R128). -/

namespace Sys2Proof.Machine

open Host (Outcome)

/-- The commands the port does not decode. An idle port and an incomplete command leave the state as it is
(R194; notes/assumptions/7.md, 8.md). An illegal opcode ends in ILLEGAL_OP after FAULTED is looked at (R177).
A telemetry frame of a class no row names is ingested as RX_FRAME does (R128). -/
def undecoded (e : DecodeError) (s : State) : Outcome State Fault Refusal :=
  match e with
  | .empty => .next s
  | .truncated _ => .next s
  | .interrupted _ => .refused .overlappingOperations
  | .unassignedOpcode _ rest => guarded (raiseContractViolation .illegalOp) { s with port := rest }
  | .noWireRow f rest =>
    match f.format with
    | .tpdo => guarded (ingest (f.cobId.setWidth 16) f.length f.payload f.nowUs) { s with port := rest }
    | .sdo => .refused .noWireRow
    | .rpdoV2 => .refused .noWireRow
    | .rpdoLegacy => .refused .noWireRow

end Sys2Proof.Machine
end

