-- ==== Sys2Proof/Machine/Step.lean ====
section
/-! DEFINITION. One step: the next operation the host has issued, run to completion (R15, R57). -/

namespace Sys2Proof.Machine

/-- One step of the block: take the first instruction at the port and run it. -/
def step (s : State) : Host.Outcome State Fault Refusal :=
  match decode s.port with
  | .ok (i, rest) => exec i { s with port := rest }
  | .error e => undecoded e s

/-- `s` with the instruction of an opcode-table word issued next (notes/assumptions/7.md). -/
def State.withFetchWord (s : State) (nbits w : Nat) : State :=
  { s with port := tableWord nbits w ++ s.port }

end Sys2Proof.Machine
end

