-- ==== Sys2Proof/WellFormed.lean ====
section
/-! DEFINITION. Well-formed instructions: the argument contracts the spec puts on an operation whatever the
state is (R83, R96, R99, R100, R123, R170, R171, R196). An ill-formed instruction still decodes and still
runs: it ends in the contract violation its own rule names. -/

namespace Sys2Proof

/-- Node argument 0 to 127 (R84). -/
def nodeInRange (node : Byte) : Bool := decide (node.toNat ≤ 127)

/-- Legal data widths 1, 2 and 4 (R55, R96). -/
def widthLegal (w : Byte) : Bool := decide (w.toNat = 1 ∨ w.toNat = 2 ∨ w.toNat = 4)

/-- Flag bits 7 to 1 are zero (R83). -/
def flagsLegal (flags : Byte) : Bool := decide (flags.toNat < 2)

/-- An identifier that fits in 11 bits (R46). -/
def cobIdInRange (cobId : U16) : Bool := decide (cobId.toNat ≤ 0x7FF)

/-- A frame length 0 to 8 (R47, R123). -/
def lengthLegal (length : Byte) : Bool := decide (length.toNat ≤ 8)

/-- Assigned register numbers for READ_REG (R48, R170). -/
def regReadable (reg : Byte) : Bool :=
  decide (reg.toNat ≤ 0x0A ∨ (0x10 ≤ reg.toNat ∧ reg.toNat ≤ 0x15))

/-- Legal register and value of WRITE_CONFIG (R171's `Legal`). -/
def configWriteLegal (reg : Byte) (value : U32) : Bool :=
  decide (reg.toNat ≤ 0x0A) &&
    (if reg.toNat = 0 then decide (value.toNat ≤ 127)
     else if reg.toNat ≤ 2 then decide (value.toNat ≤ 1)
     else if reg.toNat ≤ 4 then true
     else decide (value.toNat ≤ 0xFFFF))

/-- The argument contract of each instruction that does not depend on the state. -/
def Instr.wellFormed : Instr → Bool
  | .sdoWrite node _ _ w _ => nodeInRange node && widthLegal w
  | .sdoReadReq node _ _ w => nodeInRange node && widthLegal w
  | .rpdoSend node channelBase _ offset w _ =>
      nodeInRange node && decide (channelBase.toNat + node.toNat ≤ 0x7FF) && widthLegal w &&
        decide (2 ≤ offset.toNat ∧ offset.toNat + w.toNat ≤ 8)
  | .decodeCobId cobId => cobIdInRange cobId
  | .decodeSdoIndex _ => true
  | .decodeSdoSubindex _ => true
  | .bfHi _ => true
  | .bfLo _ => true
  | .bfSetHi _ _ => true
  | .bfSetLo _ _ => true
  | .execute flags _ => flagsLegal flags
  | .rxFrame sourceCobId length _ _ _ => lengthLegal length && cobIdInRange sourceCobId
  | .setPosition _ => true
  | .setSpeed _ => true
  | .setAmps _ => true
  | .setUndefined => true
  | .halt flags => flagsLegal flags
  | .getPosition => true
  | .getSpeed => true
  | .getAmps => true
  | .getStatusWord => true
  | .getLegacyFaultStatus => true
  | .readReg reg => regReadable reg
  | .writeConfig reg value => configWriteLegal reg value
  | .reset nodeId protocol encoderPresent _ _ _ _ _ _ _ _ _ =>
      nodeInRange nodeId && decide (protocol.toNat ≤ 1) && decide (encoderPresent.toNat ≤ 1)
  | .sdoDownload1B _ _ _ _ => true
  | .sdoDownload2B _ _ _ _ => true
  | .sdoDownload4B _ _ _ _ => true
  | .sdoUploadReq1B _ _ _ => true
  | .sdoUploadReq2B _ _ _ => true
  | .sdoUploadReq4B _ _ _ => true
  | .v2CmdPosition _ _ => true
  | .v2CmdSpeed _ _ => true
  | .v2CmdAmps _ _ => true
  | .v2FaultAck _ => true
  | .legacyCmdPosition _ _ => true
  | .legacyCmdSpeedEncoder _ _ => true
  | .legacyCmdSpeedNoEncoder _ _ => true
  | .tpdoPrimary _ length _ _ _ => lengthLegal length
  | .tpdoSecondary _ length _ _ _ => lengthLegal length
  | .tpdoTertiary _ length _ _ _ => lengthLegal length
  | .tpdoQuaternary _ length _ _ _ => lengthLegal length

end Sys2Proof
end

