-- ==== Sys2Proof/Safety.lean ====
section
/-! DEFINITION. What counts as a safe run of the block, and the terms the claims use, each written from its rule
and not from the meanings: a block that may run operations (R199, R179), a contract violation's whole effect
(R178), timer expiry (R111), the frames on the wire (R63 to R68), and the block's invariant (R33 to R36, R44,
R45, R153). -/

namespace Sys2Proof.Machine

/-- A block that has had its RESET (R199) and has reached no unreachable arm (R179). -/
abbrev Ready (s : State) : Prop := s.initialised = true ∧ s.faulted = false

/-- RESET, the one operation exempt from R179 and R199. -/
abbrev IsReset (i : Instr) : Prop :=
  match i with
  | .reset _ _ _ _ _ _ _ _ _ _ _ _ => True
  | _ => False

/-- The contract violations of R176, with their codes. -/
def violationCode (st : Status) : Option Byte :=
  match st with
  | .ok => none
  | .cvWidth => some 0x10
  | .cvOffset => some 0x11
  | .cvCobRange => some 0x12
  | .cvNodeRange => some 0x13
  | .cvSetpointRange => some 0x14
  | .cvNoTelemetry => some 0x15
  | .cvUnsupportedMode => some 0x16
  | .cvLegacySecondaryNoEncoder => some 0x17
  | .cvLength => some 0x18
  | .cvFieldInvalid => some 0x19
  | .cvConfigValue => some 0x1A
  | .illegalOp => some 0x1B
  | .fault => none

/-- The whole effect of a contract violation with code number `code` (R178). -/
def State.violated (s : State) (st : Status) (code : Byte) : State :=
  { s with
    cvLatched := true
    cvFirstCode := if s.cvLatched then s.cvFirstCode else code
    response := ⟨st, .none⟩ }

/-- The answer of an operation that changed nothing else. -/
def State.answered (s : State) (r : Result) : State := { s with response := ⟨.ok, r⟩ }

/-- One frame sent (R43) and one answer drawn from the transport (R14). -/
def State.sending (s : State) (cobId : CobId) (p : Payload) : State :=
  { s with trace := s.trace ++ [⟨cobId, p⟩], sendDraws := s.sendDraws + 1 }

/-- The transport's answer to that frame (R14). -/
def State.nextAnswer (s : State) : Bool := Config.sendOk s.sendDraws

/-- Expiry of a timer (R111). A time before the start counts as no time elapsed. -/
abbrev TimerExpired (start : U64) (interval : U32) (nowUs : U64) (tie : Bool) : Prop :=
  interval.toNat < nowUs.toNat - start.toNat ∨
    (nowUs.toNat - start.toNat = interval.toNat ∧ tie = true)

/-- H expired at `nowUs` with the k-th tie draw (R114). -/
abbrev HealthTimedOut (s : State) (nowUs : U64) : Prop :=
  TimerExpired s.healthStart s.cfg.healthTimeoutUs nowUs (Config.timerTie s.tieDraws)

/-- R expired at `nowUs` with tie draw number `draw` (R115). -/
abbrev RpdoDue (s : State) (nowUs : U64) (draw : Nat) : Prop :=
  TimerExpired s.rpdoStart s.cfg.rpdoIntervalUs nowUs (Config.timerTie draw)

/-- Bits 7..0 and 15..8 of a 16-bit value (R53). -/
abbrev lo (v : U16) : Byte := v.extractLsb' 0 8
abbrev hi (v : U16) : Byte := v.extractLsb' 8 8

/-- The identifier `base + node` (R50). -/
abbrev onChannel (base : Nat) (node : NodeId) : CobId := BitVec.ofNat 11 (base + node.toNat)

/-- The Legacy command frame (R67). -/
def legacyWireFrame (base : Nat) (node : NodeId) (sp : U16) : TxEvent :=
  ⟨onChannel base node, ⟨lo sp, hi sp, 0, 0, node.setWidth 8, 0, 0, 0⟩⟩

/-- The CANopenV2 mode frames (R68, R154 to R156). -/
def v2PositionWireFrame (node : NodeId) (sp : U16) : TxEvent :=
  ⟨onChannel 0x200 node, ⟨0x21, 0x00, lo sp, hi sp, 0, 0, 0, 0⟩⟩
def v2SpeedWireFrame (node : NodeId) (sp : U16) : TxEvent :=
  ⟨onChannel 0x200 node, ⟨0x05, 0x00, 0, 0, lo sp, hi sp, 0, 0⟩⟩
def v2AmpsWireFrame (node : NodeId) (sp : U16) : TxEvent :=
  ⟨onChannel 0x200 node, ⟨0x01, 0x00, 0, 0, 0, 0, lo sp, hi sp⟩⟩

/-- The fault-ACK frame (R134), its dummy byte symbolic. -/
def faultAckWireFrame (node : NodeId) : TxEvent :=
  ⟨onChannel 0x200 node, ⟨0x02, 0x00, Config.faultAckDummy, 0, 0, 0, 0, 0⟩⟩

/-- The SDO frame (R63). -/
def sdoWireFrame (node : NodeId) (cmd : Byte) (index : U16) (subindex : Byte) (d0 d1 d2 d3 : Byte) :
    TxEvent :=
  ⟨onChannel 0x600 node, ⟨cmd, lo index, hi index, subindex, d0, d1, d2, d3⟩⟩

/-- The command frame of a mode and setpoint (R148 to R157): none for Undefined, and none for Legacy Amps,
which no frame encodes (R153). -/
def commandFrame (c : CfgRegs) (m : Mode) (sp : U16) : Option TxEvent :=
  match m, c.protocol with
  | .undefined, _ => none
  | .position, .legacy => some (legacyWireFrame 0x200 c.nodeId sp)
  | .position, .canopenV2 => some (v2PositionWireFrame c.nodeId sp)
  | .speed, .legacy => some (legacyWireFrame (if c.encoderPresent then 0x300 else 0x200) c.nodeId sp)
  | .speed, .canopenV2 => some (v2SpeedWireFrame c.nodeId sp)
  | .amps, .legacy => none
  | .amps, .canopenV2 => some (v2AmpsWireFrame c.nodeId sp)

/-- The combination R153 calls unreachable. -/
abbrev LegacyAmps (s : State) : Prop := s.cfg.protocol = .legacy ∧ s.mode = .amps

/-- A 16-bit telemetry field, low byte first (R52). -/
abbrev field16 (b0 b1 : Byte) : U16 := b1 ++ b0

/-- A frame for this controller: a node that is not 0 and equals the configured one (R124). -/
abbrev AddressedTo (s : State) (node : NodeId) : Prop := s.cfg.nodeId ≠ 0 ∧ node = s.cfg.nodeId

/-- The block's invariant: an unconfigured node has no telemetry (R44); without telemetry the counter is 0
(R45); Legacy Amps is never reached and so FAULTED stays 0 (R153, R179); an unlatched code register is 0 (R33,
R34); a snapshot register that was never written holds its reset value (R35, R36). -/
structure BlockInvariant (s : State) : Prop where
  unconfigured_has_no_telemetry : s.cfg.nodeId = 0 → s.telem = .noTelemetry
  no_telemetry_no_count : s.telem = .noTelemetry → s.faultAckCount = 0
  not_legacy_amps : ¬ LegacyAmps s
  not_faulted : s.faulted = false
  cv_code_zero_unless_latched : s.cvLatched = false → s.cvFirstCode = 0
  fault_code_zero_unless_faulted : s.faulted = false → s.faultCode = 0
  position_zero_unless_written : s.snap.wPosition = false → s.snap.position = 0
  speed_zero_unless_written : s.snap.wSpeed = false → s.snap.speed = 0
  amps_zero_unless_written : s.snap.wAmps = false → s.snap.amps = 0
  status_zero_unless_written : s.snap.wStatus = false → s.snap.status = 0
  legacyFs_zero_unless_written : s.snap.wLegacyFs = false → s.snap.legacyFs = 0

/-- The operations `is`, issued one after the other, each answering a next state, lead from the first state to
the last. -/
def Runs (s : State) (is : List Instr) (t : State) : Prop :=
  match is with
  | [] => t = s
  | i :: is => ∃ u, exec i s = .next u ∧ Runs u is t

/-- A safe step: it answers a next state, and the block is not faulted there. -/
def SafeStep (s : State) : Prop := ∃ t, step s = .next t ∧ t.faulted = false

end Sys2Proof.Machine
end

