-- ==== Sys2Proof/Certificates/Slice0/Obligations.lean ====
section
/-! DEFINITION. The statements about the block, each from a numbered rule of spec/ or, where its docstring says
so, derived from sections of it or from a choice of this model. -/

open Sys2Proof Sys2Proof.Machine

/-! ## Encoding -/

/-- Decoding an encoded instruction gives it back, whatever follows it at the port, for all rows but one. A
Legacy Speed frame without an encoder is, on the wire, the Legacy Position frame (spec/30_encoding.md section
3); that the decoder reads it as the Position row is the model's choice (notes/assumptions/13.md), as it is that
a wire row stands at the port (notes/assumptions/11.md). -/
def Obligations.DecodeInvertsEncode : Prop :=
  (∀ (i : Instr) (rest : List PortItem), (∀ n sp, i ≠ .legacyCmdSpeedNoEncoder n sp) →
    decode (encode i ++ rest) = .ok (i, rest)) ∧
  (∀ (n : NodeId) (sp : U16) (rest : List PortItem),
    decode (encode (.legacyCmdSpeedNoEncoder n sp) ++ rest) = .ok (.legacyCmdPosition n sp, rest))

/-- Words written out in spec/95_test_vectors.md programs P1 to P4, and frames of spec/30_encoding.md sections
2 to 4, decode to the instructions they stand for. -/
def Obligations.WrittenWordsDecode : Prop :=
  decode (hostItems [0x20, 0xF4, 0x01]) = .ok (.setPosition 500, []) ∧
  decode (hostItems [0x24, 0x01]) = .ok (.halt 1, []) ∧
  decode (hostItems [0x10, 0x01, 0x11, 0x27, 0, 0, 0, 0, 0, 0]) = .ok (.execute 1 10001, []) ∧
  decode (hostItems [0x11, 0x85, 0x01, 0x08, 0x00, 0x00, 0xF4, 0x01, 0, 0, 0, 0, 0, 0, 0, 0, 0, 0, 0, 0,
      0xE8, 0x03, 0, 0, 0, 0, 0, 0]) =
    .ok (.rxFrame 0x185 8 ⟨0x00, 0x00, 0xF4, 0x01, 0, 0, 0, 0⟩ 0 1000, []) ∧
  decode (hostItems [0x01, 0x01, 0x40, 0x60, 0x00, 0x02, 0x0F, 0x00, 0x00, 0x00]) =
    .ok (.sdoWrite 1 0x6040 0 2 0x000F, []) ∧
  decode (hostItems [0x03, 0x01, 0x00, 0x02, 0x21, 0x00, 0x01, 0x02, 0x10, 0x00, 0x00, 0x00]) =
    .ok (.rpdoSend 1 0x200 0x0021 1 2 0x0010, []) ∧
  decode (hostItems [0x38, 0x13]) = .ok (.readReg 0x13, []) ∧
  decode (hostItems [0x39, 0x00, 0x09, 0x00, 0x00, 0x00]) = .ok (.writeConfig 0 9, []) ∧
  decode (hostItems [0x30]) = .ok (.getPosition, []) ∧
  decode (hostItems [0xF0, 0x05, 0x01, 0x01, 0x10, 0x27, 0x00, 0x00, 0xA0, 0x86, 0x01, 0x00, 0x00, 0x00,
      0xE8, 0x03, 0x18, 0xFC, 0xE8, 0x03, 0x0C, 0xFE, 0xF4, 0x01, 0, 0, 0, 0, 0, 0, 0, 0]) =
    .ok (.reset 5 1 1 10000 100000 0 1000 0xFC18 1000 0xFE0C 500 0, []) ∧
  decode [.frame ⟨.sdo, 0x605, 8, ⟨0x2B, 0x40, 0x60, 0x00, 0x0F, 0x00, 0x00, 0x00⟩, 0, 0⟩] =
    .ok (.sdoDownload2B 5 0x6040 0 0x000F, []) ∧
  decode [.frame ⟨.rpdoV2, 0x205, 8, ⟨0x21, 0x00, 0xE8, 0x03, 0, 0, 0, 0⟩, 0, 0⟩] =
    .ok (.v2CmdPosition 5 1000, []) ∧
  decode [.frame ⟨.rpdoLegacy, 0x307, 8, ⟨0x38, 0xFF, 0, 0, 0x07, 0, 0, 0⟩, 0, 0⟩] =
    .ok (.legacyCmdSpeedEncoder 7 0xFF38, []) ∧
  decode [.frame ⟨.tpdo, 0x185, 8, ⟨0, 0, 0xF4, 0x01, 0, 0, 0, 0⟩, 0, 1000⟩] =
    .ok (.tpdoPrimary 5 8 ⟨0, 0, 0xF4, 0x01, 0, 0, 0, 0⟩ 0 1000, [])

/-! ## The step -/

/-- A step runs the instruction at the port, on the state with the port moved past it. That issued operations
stand in a list at the port, and that a step takes the first of them, is the model's choice
(notes/assumptions/7.md). -/
def Obligations.StepRunsDecodedOperation : Prop :=
  ∀ (s : State) (i : Instr) (rest : List PortItem),
    decode s.port = .ok (i, rest) → step s = exec i { s with port := rest }

/-- With nothing issued, or only the beginning of a command, the state stays as it is. That an incomplete
command waits is the model's choice (notes/assumptions/8.md), and so is the port (notes/assumptions/7.md). -/
def Obligations.IdleOrIncompletePortKeepsState : Prop :=
  ∀ (s : State) (i : Instr) (k : Nat), k < (encode i).length → s.port = (encode i).take k →
    step s = .next s

/-- A frame issued inside a command has no step (spec/70_reset_and_hazards.md R201 as this model reads it,
notes/assumptions/10.md). -/
def Obligations.OverlappingIssueIsRefused : Prop :=
  ∀ (s : State) (i : Instr) (k : Nat) (f : Frame) (rest : List PortItem),
    0 < k → k < (encode i).length → s.port = (encode i).take k ++ .frame f :: rest →
    step s = .refused .overlappingOperations

/-- The 25 opcodes of R81. -/
def assignedOpcodes : List Byte :=
  [0x01, 0x02, 0x03, 0x04, 0x05, 0x06, 0x08, 0x09, 0x0A, 0x0B, 0x10, 0x11, 0x20, 0x21, 0x22, 0x23, 0x24,
    0x30, 0x31, 0x32, 0x33, 0x34, 0x38, 0x39, 0xF0]

/-- R82: the 231 other opcodes end in ILLEGAL_OP and change nothing but the latch. How much of the port such a
command takes is left to the model (notes/assumptions/9.md), so the statement does not say. -/
def Obligations.UnassignedOpcodeIsIllegal : Prop :=
  ((List.range 256).filter fun n => decide (BitVec.ofNat 8 n ∉ assignedOpcodes)).length = 231 ∧
  ∀ (s : State) (op : Byte) (rest : List PortItem), Ready s → op ∉ assignedOpcodes →
    s.port = .byte op :: rest →
    ∃ later, step s = .next (({ s with port := later }).violated .illegalOp 0x1B)

/-- The forms R83 and R189 call illegal. -/
def IllegalForm (i : Instr) : Prop :=
  (∃ flags t, i = .execute flags t ∧ 2 ≤ flags.toNat) ∨
  (∃ flags, i = .halt flags ∧ 2 ≤ flags.toNat) ∨
  (∃ reg, i = .readReg reg ∧ 0x0A < reg.toNat ∧ ¬ (0x10 ≤ reg.toNat ∧ reg.toNat ≤ 0x15)) ∨
  (∃ reg value, i = .writeConfig reg value ∧ 0x0A < reg.toNat)

/-- R83: reserved flag bits end in ILLEGAL_OP, as an unassigned register does, and no other argument does. -/
def Obligations.IllegalOpExactlyForIllegalForms : Prop :=
  ∀ (s : State) (i : Instr), Ready s →
    (IllegalForm i → exec i s = .next (s.violated .illegalOp 0x1B)) ∧
    (¬ IllegalForm i → ∀ t, exec i s = .next t → t.response.status ≠ .illegalOp)

/-- R199: before the first RESET no other operation has a step. -/
def Obligations.NothingRunsBeforeFirstReset : Prop :=
  ∀ (s : State) (i : Instr), s.initialised = false → ¬ IsReset i → exec i s = .refused .beforeFirstReset

/-! ## Contract violations and faults -/

/-- R178: an operation that ends in a contract violation changes the latch and nothing else, records its code
only if none is latched, and no operation but RESET clears the latch. -/
def Obligations.ContractViolationOnlyLatches : Prop :=
  (∀ (s t : State) (i : Instr) (code : Byte), Ready s ∨ IsReset i → exec i s = .next t →
    violationCode t.response.status = some code →
    t = { s with
      cvLatched := true
      cvFirstCode := if s.cvLatched = true then s.cvFirstCode else code
      response := ⟨t.response.status, .none⟩ }) ∧
  (∀ (s t : State) (i : Instr), ¬ IsReset i → exec i s = .next t → s.cvLatched = true → t.cvLatched = true)

/-- R179: the unreachable arm sets FAULTED and the code after the writes already made, sends nothing, and from
then on every operation but RESET, an unassigned opcode too, answers FAULT with no effect. -/
def Obligations.FaultStopsTheBlock : Prop :=
  (∀ (s : State) (nowUs : U64), Ready s → LegacyAmps s → s.telem = .telemetryPresent →
    ¬ HealthTimedOut s nowUs → RpdoDue s nowUs (s.tieDraws + 1) →
    exec (.execute 1 nowUs) s = .next { s with
      tieDraws := s.tieDraws + 2, rpdoStart := nowUs, faulted := true, faultCode := 0x01,
      response := ⟨.fault, .none⟩ }) ∧
  (∀ (s : State), Ready s → LegacyAmps s → s.telem = .telemetryPresent →
    exec (.halt 1) s = .next { s with
      setpoint := 0, faulted := true, faultCode := 0x01, response := ⟨.fault, .none⟩ }) ∧
  (∀ (s : State) (i : Instr), s.initialised = true → s.faulted = true → ¬ IsReset i →
    exec i s = .next { s with response := ⟨.fault, .none⟩ }) ∧
  (∀ (s : State) (op : Byte) (rest : List PortItem), s.initialised = true → s.faulted = true →
    op ∉ assignedOpcodes → s.port = .byte op :: rest →
    ∃ later, step s = .next { s with port := later, response := ⟨.fault, .none⟩ })

/-- No operation blocks or suspends: once reset, every instruction answers a next state. -/
def Obligations.NoOperationBlocks : Prop :=
  ∀ (s : State) (i : Instr), s.initialised = true → ∃ t, exec i s = .next t

/-- An operation whose arguments keep their contract never ends in a violation of it, and one whose arguments
break it always does (spec/60_exceptions.md section 1, spec/30_encoding.md section 8). -/
def Obligations.WellFormedMeansNoArgumentViolation : Prop :=
  ∀ (s t : State) (i : Instr), Ready s → exec i s = .next t →
    (i.wellFormed = true ↔
      t.response.status ∉ [Status.cvWidth, .cvOffset, .cvCobRange, .cvNodeRange, .cvLength,
        .cvConfigValue, .illegalOp])

/-! ## Payload fields -/

/-- R12: a multi-byte field is the sum of its bytes, low byte first, and writing one sets its own bytes and no
other. It reads back as the value cut to its width. -/
def Obligations.PayloadFieldsAreLittleEndian : Prop :=
  ∀ (p : Payload) (off n : Nat), off + n ≤ 8 →
    memRead p off n = ((List.range n).map fun k => (byteAt p (off + k)).toNat * 256 ^ k).sum ∧
    (∀ v : U32,
      (∀ k < n, (byteAt (memWrite p off n v) (off + k)).toNat = v.toNat >>> (8 * k) % 256) ∧
      (∀ j < 8, j < off ∨ off + n ≤ j → byteAt (memWrite p off n v) j = byteAt p j) ∧
      memRead (memWrite p off n v) off n = v.toNat % 256 ^ n)

/-! ## Codec -/

/-- The command starts with opcode `op` and has `len` bytes (R80, R81). -/
def IssuedAs (i : Instr) (op : Byte) (len : Nat) : Prop :=
  ∃ args, encode i = .byte op :: args ∧ args.length + 1 = len

/-- R97: SDO_WRITE checks node, then width, then sends the frame of its width. -/
def Obligations.SdoWriteSendsFrame : Prop :=
  ∀ (s : State) (node : Byte) (index : U16) (subindex w : Byte) (data : U32), Ready s →
    IssuedAs (.sdoWrite node index subindex w data) 0x01 10 ∧
    (127 < node.toNat →
      exec (.sdoWrite node index subindex w data) s = .next (s.violated .cvNodeRange 0x13)) ∧
    (node.toNat ≤ 127 → w ≠ 1 → w ≠ 2 → w ≠ 4 →
      exec (.sdoWrite node index subindex w data) s = .next (s.violated .cvWidth 0x10)) ∧
    (node.toNat ≤ 127 → w = 1 →
      exec (.sdoWrite node index subindex w data) s =
        .next ((s.sending (BitVec.ofNat 11 (0x600 + node.toNat))
          ⟨0x2F, lo index, hi index, subindex, data.extractLsb' 0 8, 0, 0, 0⟩).answered
            (.sent s.nextAnswer))) ∧
    (node.toNat ≤ 127 → w = 2 →
      exec (.sdoWrite node index subindex w data) s =
        .next ((s.sending (BitVec.ofNat 11 (0x600 + node.toNat))
          ⟨0x2B, lo index, hi index, subindex, data.extractLsb' 0 8, data.extractLsb' 8 8, 0, 0⟩).answered
            (.sent s.nextAnswer))) ∧
    (node.toNat ≤ 127 → w = 4 →
      exec (.sdoWrite node index subindex w data) s =
        .next ((s.sending (BitVec.ofNat 11 (0x600 + node.toNat))
          ⟨0x23, lo index, hi index, subindex, data.extractLsb' 0 8, data.extractLsb' 8 8,
            data.extractLsb' 16 8, data.extractLsb' 24 8⟩).answered (.sent s.nextAnswer)))

/-- R98: SDO_READ_REQ checks node, then width, then sends the request of its width, which carries no data. -/
def Obligations.SdoReadReqSendsFrame : Prop :=
  ∀ (s : State) (node : Byte) (index : U16) (subindex w : Byte), Ready s →
    IssuedAs (.sdoReadReq node index subindex w) 0x02 6 ∧
    (127 < node.toNat →
      exec (.sdoReadReq node index subindex w) s = .next (s.violated .cvNodeRange 0x13)) ∧
    (node.toNat ≤ 127 → w ≠ 1 → w ≠ 2 → w ≠ 4 →
      exec (.sdoReadReq node index subindex w) s = .next (s.violated .cvWidth 0x10)) ∧
    (∀ cmd : Byte, node.toNat ≤ 127 → (w = 1 ∧ cmd = 0x4F) ∨ (w = 2 ∧ cmd = 0x4B) ∨ (w = 4 ∧ cmd = 0x43) →
      exec (.sdoReadReq node index subindex w) s =
        .next ((s.sending (BitVec.ofNat 11 (0x600 + node.toNat))
          ⟨cmd, lo index, hi index, subindex, 0, 0, 0, 0⟩).answered (.sent s.nextAnswer)))

/-- R99: RPDO_SEND checks node, identifier, width and offset in that order, then sends command code and data. -/
def Obligations.RpdoSendChecksThenSends : Prop :=
  ∀ (s : State) (node : Byte) (base code : U16) (offset w : Byte) (data : U32), Ready s →
    IssuedAs (.rpdoSend node base code offset w data) 0x03 12 ∧
    (127 < node.toNat →
      exec (.rpdoSend node base code offset w data) s = .next (s.violated .cvNodeRange 0x13)) ∧
    (node.toNat ≤ 127 → 0x7FF < base.toNat + node.toNat →
      exec (.rpdoSend node base code offset w data) s = .next (s.violated .cvCobRange 0x12)) ∧
    (node.toNat ≤ 127 → base.toNat + node.toNat ≤ 0x7FF → w ≠ 1 → w ≠ 2 → w ≠ 4 →
      exec (.rpdoSend node base code offset w data) s = .next (s.violated .cvWidth 0x10)) ∧
    (node.toNat ≤ 127 → base.toNat + node.toNat ≤ 0x7FF → w = 1 ∨ w = 2 ∨ w = 4 →
      (offset.toNat < 2 ∨ 8 < offset.toNat + w.toNat) →
      exec (.rpdoSend node base code offset w data) s = .next (s.violated .cvOffset 0x11)) ∧
    (node.toNat ≤ 127 → base.toNat + node.toNat ≤ 0x7FF → w = 1 ∨ w = 2 ∨ w = 4 →
      2 ≤ offset.toNat → offset.toNat + w.toNat ≤ 8 →
      ∃ p, exec (.rpdoSend node base code offset w data) s =
          .next ((s.sending (BitVec.ofNat 11 (base.toNat + node.toNat)) p).answered (.sent s.nextAnswer)) ∧
        byteAt p 0 = lo code ∧ byteAt p 1 = hi code ∧
        (∀ k < w.toNat, byteAt p (offset.toNat + k) = data.extractLsb' (8 * k) 8) ∧
        (∀ j < 8, 2 ≤ j → (j < offset.toNat ∨ offset.toNat + w.toNat ≤ j) → byteAt p j = 0))

/-- R100: DECODE_COB_ID splits an 11-bit identifier and refuses a wider one. -/
def Obligations.CobIdDecomposes : Prop :=
  ∀ (s : State) (cobId : U16), Ready s →
    IssuedAs (.decodeCobId cobId) 0x04 3 ∧
    (0x7FF < cobId.toNat → exec (.decodeCobId cobId) s = .next (s.violated .cvCobRange 0x12)) ∧
    (cobId.toNat ≤ 0x7FF →
      exec (.decodeCobId cobId) s = .next (s.answered (.cobParts (cobId &&& 0x780) (cobId &&& 0x7F))))

/-- R101, R102: the SDO decoders read bytes 1 and 2, low byte first, and byte 3, and look at nothing else. -/
def Obligations.SdoFieldsReadAtFixedOffsets : Prop :=
  ∀ (s : State) (b0 b1 b2 b3 b4 b5 b6 b7 : Byte), Ready s →
    IssuedAs (.decodeSdoIndex ⟨b0, b1, b2, b3, b4, b5, b6, b7⟩) 0x05 9 ∧
    IssuedAs (.decodeSdoSubindex ⟨b0, b1, b2, b3, b4, b5, b6, b7⟩) 0x06 9 ∧
    exec (.decodeSdoIndex ⟨b0, b1, b2, b3, b4, b5, b6, b7⟩) s = .next (s.answered (.word (b2 ++ b1))) ∧
    exec (.decodeSdoSubindex ⟨b0, b1, b2, b3, b4, b5, b6, b7⟩) s = .next (s.answered (.byte b3))

/-- R92 to R95: the bit-field helpers, stated over the two bytes h and l of the value. -/
def Obligations.ByteFieldOperations : Prop :=
  ∀ (s : State) (h l b : Byte) (v : U16), Ready s → v = h ++ l →
    IssuedAs (.bfHi v) 0x08 3 ∧ IssuedAs (.bfLo v) 0x09 3 ∧
    IssuedAs (.bfSetHi v b) 0x0A 4 ∧ IssuedAs (.bfSetLo v b) 0x0B 4 ∧
    exec (.bfHi v) s = .next (s.answered (.byte h)) ∧
    exec (.bfLo v) s = .next (s.answered (.byte l)) ∧
    exec (.bfSetHi v b) s = .next (s.answered (.word (b ++ l))) ∧
    exec (.bfSetLo v b) s = .next (s.answered (.word (h ++ b)))

/-- What an SDO builder puts into a frame, the SDO decoders read back; the parts of an identifier make it up
again (spec/40_codec.md section 5: "Round-trip law", which the spec derives from its rules). -/
def Obligations.SdoRoundTrip : Prop :=
  (∀ (s : State) (node : Byte) (index : U16) (subindex w : Byte) (data : U32) (i : Instr),
    Ready s → node.toNat ≤ 127 → w = 1 ∨ w = 2 ∨ w = 4 →
    i = .sdoWrite node index subindex w data ∨ i = .sdoReadReq node index subindex w →
    ∃ t e, exec i s = .next t ∧ t.trace = s.trace ++ [e] ∧
      exec (.decodeSdoIndex e.payload) t = .next (t.answered (.word index)) ∧
      exec (.decodeSdoSubindex e.payload) t = .next (t.answered (.byte subindex))) ∧
  (∀ cobId : U16, cobId.toNat ≤ 2047 → (cobId &&& 0x780) ||| (cobId &&& 0x7F) = cobId)

/-- The ten codec operations of spec/40_codec.md. -/
def IsCodec (i : Instr) : Prop :=
  match i with
  | .sdoWrite _ _ _ _ _ | .sdoReadReq _ _ _ _ | .rpdoSend _ _ _ _ _ _ | .decodeCobId _
  | .decodeSdoIndex _ | .decodeSdoSubindex _ | .bfHi _ | .bfLo _ | .bfSetHi _ _ | .bfSetLo _ _ => True
  | _ => False

/-- R91: a codec operation reads no controller register (its answer and its frame are the same in any two
states, given the same transport answer), writes none, and accepts node 0 at every legal width and offset. -/
def Obligations.CodecIsIndependentOfController : Prop :=
  (∀ (s s' t t' : State) (i : Instr), IsCodec i → Ready s → Ready s' → s.sendDraws = s'.sendDraws →
    exec i s = .next t → exec i s' = .next t' →
    t.response = t'.response ∧
    (∃ added, t.trace = s.trace ++ added ∧ t'.trace = s'.trace ++ added) ∧
    t = { s with
      trace := t.trace, sendDraws := t.sendDraws, response := t.response
      cvLatched := t.cvLatched, cvFirstCode := t.cvFirstCode }) ∧
  (∀ (s : State) (index : U16) (subindex w writeCmd readCmd : Byte) (data : U32), Ready s →
    (w = 1 ∧ writeCmd = 0x2F ∧ readCmd = 0x4F) ∨ (w = 2 ∧ writeCmd = 0x2B ∧ readCmd = 0x4B) ∨
      (w = 4 ∧ writeCmd = 0x23 ∧ readCmd = 0x43) →
    exec (.sdoWrite 0 index subindex w data) s =
      .next ((s.sending 0x600 (memWrite ⟨writeCmd, lo index, hi index, subindex, 0, 0, 0, 0⟩ 4 w.toNat
        data)).answered (.sent s.nextAnswer)) ∧
    exec (.sdoReadReq 0 index subindex w) s =
      .next ((s.sending 0x600 ⟨readCmd, lo index, hi index, subindex, 0, 0, 0, 0⟩).answered
        (.sent s.nextAnswer))) ∧
  (∀ (s : State) (base code : U16) (offset w : Byte) (data : U32), Ready s → base.toNat ≤ 0x7FF →
    w = 1 ∨ w = 2 ∨ w = 4 → 2 ≤ offset.toNat → offset.toNat + w.toNat ≤ 8 →
    exec (.rpdoSend 0 base code offset w data) s =
      .next ((s.sending (BitVec.ofNat 11 base.toNat) (memWrite ⟨lo code, hi code, 0, 0, 0, 0, 0, 0⟩
        offset.toNat w.toNat data)).answered (.sent s.nextAnswer)))

/-! ## Tick -/

/-- R111 to R113: a timer has expired when more than its interval has passed since its start, has not when less
has, and draws at equality; a time before the start counts as no time passed. A restart takes the present
time, and R is restarted exactly when its check found it expired, one draw being made either way. -/
def Obligations.TimerExpiryFollowsElapsedTime : Prop :=
  (∀ (start : U64) (interval : U32) (nowUs : U64) (tie : Bool),
    (start.toNat ≤ nowUs.toNat →
      (start.toNat + interval.toNat < nowUs.toNat → expired start interval nowUs tie = true) ∧
      (start.toNat + interval.toNat = nowUs.toNat → expired start interval nowUs tie = tie) ∧
      (nowUs.toNat < start.toNat + interval.toNat → expired start interval nowUs tie = false)) ∧
    (nowUs.toNat < start.toNat →
      (interval = 0 → expired start interval nowUs tie = tie) ∧
      (interval ≠ 0 → expired start interval nowUs tie = false))) ∧
  (∀ (s : State) (nowUs : U64),
    restartHealth nowUs s = { s with healthStart := nowUs } ∧
    restartRpdo nowUs s = { s with rpdoStart := nowUs } ∧
    checkAndRestartRpdo nowUs s = { s with
      tieDraws := s.tieDraws + 1
      rpdoStart := if expired s.rpdoStart s.cfg.rpdoIntervalUs nowUs (Config.timerTie s.tieDraws) = true
        then nowUs else s.rpdoStart })

/-- R117, R119, R180: a tick that loses telemetry, by disconnect (whatever the telemetry state was, and whether
or not H had expired too) or by timeout, resets the axis, the mode and the counter, still checks and restarts
R, sends nothing and reports the loss with OK. -/
def Obligations.TelemetryLossTicks : Prop :=
  (∀ (s : State) (nowUs : U64), Ready s →
    exec (.execute 0 nowUs) s = .next { s with
      telem := .noTelemetry, mode := .undefined, faultAckCount := 0, tieDraws := s.tieDraws + 1
      rpdoStart := if RpdoDue s nowUs s.tieDraws then nowUs else s.rpdoStart
      response := ⟨.ok, .tick .disconnect (decide (RpdoDue s nowUs s.tieDraws)) none⟩ }) ∧
  (∀ (s : State) (nowUs : U64), Ready s → s.telem = .telemetryPresent → HealthTimedOut s nowUs →
    exec (.execute 1 nowUs) s = .next { s with
      telem := .noTelemetry, mode := .undefined, faultAckCount := 0, tieDraws := s.tieDraws + 2
      rpdoStart := if RpdoDue s nowUs (s.tieDraws + 1) then nowUs else s.rpdoStart
      response := ⟨.ok, .tick .timeout (decide (RpdoDue s nowUs (s.tieDraws + 1))) none⟩ })

/-- R118, R120: a connected tick that loses no telemetry restarts R when it has expired, and then sends exactly
the command frame of the mode and setpoint if telemetry is present and the mode has one; whatever the
transport answers, no other register changes. A tick that loses telemetry restarts R alike and sends nothing.
(Legacy Amps is FaultStopsTheBlock's.) -/
def Obligations.TickSendsPeriodicCommand : Prop :=
  (∀ (s : State) (nowUs : U64), Ready s → s.telem = .noTelemetry →
    exec (.execute 1 nowUs) s = .next { s with
      tieDraws := s.tieDraws + 1
      rpdoStart := if RpdoDue s nowUs s.tieDraws then nowUs else s.rpdoStart
      response := ⟨.ok, .tick .none (decide (RpdoDue s nowUs s.tieDraws)) none⟩ }) ∧
  (∀ (s : State) (nowUs : U64), Ready s → s.telem = .telemetryPresent → ¬ HealthTimedOut s nowUs →
    ¬ RpdoDue s nowUs (s.tieDraws + 1) →
    exec (.execute 1 nowUs) s = .next { s with
      tieDraws := s.tieDraws + 2, response := ⟨.ok, .tick .none false none⟩ }) ∧
  (∀ (s : State) (nowUs : U64), Ready s → s.telem = .telemetryPresent → ¬ HealthTimedOut s nowUs →
    RpdoDue s nowUs (s.tieDraws + 1) → s.mode = .undefined →
    exec (.execute 1 nowUs) s = .next { s with
      tieDraws := s.tieDraws + 2, rpdoStart := nowUs, response := ⟨.ok, .tick .none true none⟩ }) ∧
  (∀ (s : State) (nowUs : U64) (e : TxEvent), Ready s → s.telem = .telemetryPresent →
    ¬ HealthTimedOut s nowUs → RpdoDue s nowUs (s.tieDraws + 1) →
    commandFrame s.cfg s.mode s.setpoint = some e →
    exec (.execute 1 nowUs) s = .next { s with
      tieDraws := s.tieDraws + 2, rpdoStart := nowUs, trace := s.trace ++ [e]
      sendDraws := s.sendDraws + 1, response := ⟨.ok, .tick .none true (some s.nextAnswer)⟩ }) ∧
  (∀ (s : State) (nowUs : U64), Ready s →
    ∃ t, exec (.execute 0 nowUs) s = .next t ∧ t.trace = s.trace ∧
      t.rpdoStart = if RpdoDue s nowUs s.tieDraws then nowUs else s.rpdoStart) ∧
  (∀ (s : State) (nowUs : U64), Ready s → s.telem = .telemetryPresent → HealthTimedOut s nowUs →
    ∃ t, exec (.execute 1 nowUs) s = .next t ∧ t.trace = s.trace ∧
      t.rpdoStart = if RpdoDue s nowUs (s.tieDraws + 1) then nowUs else s.rpdoStart)

/-- R149 to R152 and R154 to R157: the frame of every mode and variant, byte for byte, and the fault-ACK, which
shares the CANopenV2 channel; Undefined has none. -/
def Obligations.EncoderProducesWireFrames : Prop :=
  ∀ (s : State),
    (s.mode = .undefined → encodeCommand s = .noFrame) ∧
    (s.mode = .position → s.cfg.protocol = .legacy →
      encodeCommand s = .frame ⟨BitVec.ofNat 11 (0x200 + s.cfg.nodeId.toNat),
        ⟨lo s.setpoint, hi s.setpoint, 0, 0, s.cfg.nodeId.setWidth 8, 0, 0, 0⟩⟩) ∧
    (s.mode = .speed → s.cfg.protocol = .legacy → s.cfg.encoderPresent = true →
      encodeCommand s = .frame ⟨BitVec.ofNat 11 (0x300 + s.cfg.nodeId.toNat),
        ⟨lo s.setpoint, hi s.setpoint, 0, 0, s.cfg.nodeId.setWidth 8, 0, 0, 0⟩⟩) ∧
    (s.mode = .speed → s.cfg.protocol = .legacy → s.cfg.encoderPresent = false →
      encodeCommand s = .frame ⟨BitVec.ofNat 11 (0x200 + s.cfg.nodeId.toNat),
        ⟨lo s.setpoint, hi s.setpoint, 0, 0, s.cfg.nodeId.setWidth 8, 0, 0, 0⟩⟩) ∧
    (s.mode = .position → s.cfg.protocol = .canopenV2 →
      encodeCommand s = .frame ⟨BitVec.ofNat 11 (0x200 + s.cfg.nodeId.toNat),
        ⟨0x21, 0x00, lo s.setpoint, hi s.setpoint, 0, 0, 0, 0⟩⟩) ∧
    (s.mode = .speed → s.cfg.protocol = .canopenV2 →
      encodeCommand s = .frame ⟨BitVec.ofNat 11 (0x200 + s.cfg.nodeId.toNat),
        ⟨0x05, 0x00, 0, 0, lo s.setpoint, hi s.setpoint, 0, 0⟩⟩) ∧
    (s.mode = .amps → s.cfg.protocol = .canopenV2 →
      encodeCommand s = .frame ⟨BitVec.ofNat 11 (0x200 + s.cfg.nodeId.toNat),
        ⟨0x01, 0x00, 0, 0, 0, 0, lo s.setpoint, hi s.setpoint⟩⟩) ∧
    faultAckFrame s.cfg.nodeId = ⟨BitVec.ofNat 11 (0x200 + s.cfg.nodeId.toNat),
      ⟨0x02, 0x00, Config.faultAckDummy, 0, 0, 0, 0, 0⟩⟩

/-! ## Setters and halt -/

/-- R143: SET_POSITION within the unsigned limits switches the mode and stores the setpoint, else refuses. -/
def Obligations.SetPositionValidates : Prop :=
  ∀ (s : State) (sp : U16), Ready s →
    IssuedAs (.setPosition sp) 0x20 3 ∧
    (s.cfg.posMin.toNat ≤ sp.toNat ∧ sp.toNat ≤ s.cfg.posMax.toNat →
      exec (.setPosition sp) s = .next { s with
        mode := .position, setpoint := sp, response := ⟨.ok, .none⟩ }) ∧
    (¬ (s.cfg.posMin.toNat ≤ sp.toNat ∧ sp.toNat ≤ s.cfg.posMax.toNat) →
      exec (.setPosition sp) s = .next (s.violated .cvSetpointRange 0x14))

/-- R144: SET_SPEED within the signed limits switches the mode and stores the pattern, else refuses. -/
def Obligations.SetSpeedValidates : Prop :=
  ∀ (s : State) (sp : U16), Ready s →
    IssuedAs (.setSpeed sp) 0x21 3 ∧
    (s.cfg.speedMin.toInt ≤ sp.toInt ∧ sp.toInt ≤ s.cfg.speedMax.toInt →
      exec (.setSpeed sp) s = .next { s with
        mode := .speed, setpoint := sp, response := ⟨.ok, .none⟩ }) ∧
    (¬ (s.cfg.speedMin.toInt ≤ sp.toInt ∧ sp.toInt ≤ s.cfg.speedMax.toInt) →
      exec (.setSpeed sp) s = .next (s.violated .cvSetpointRange 0x14))

/-- R145: SET_AMPS is refused under Legacy first, then validated against the signed limits. -/
def Obligations.SetAmpsValidates : Prop :=
  ∀ (s : State) (sp : U16), Ready s →
    IssuedAs (.setAmps sp) 0x22 3 ∧
    (s.cfg.protocol = .legacy → exec (.setAmps sp) s = .next (s.violated .cvUnsupportedMode 0x16)) ∧
    (s.cfg.protocol = .canopenV2 → s.cfg.ampsMin.toInt ≤ sp.toInt ∧ sp.toInt ≤ s.cfg.ampsMax.toInt →
      exec (.setAmps sp) s = .next { s with
        mode := .amps, setpoint := sp, response := ⟨.ok, .none⟩ }) ∧
    (s.cfg.protocol = .canopenV2 → ¬ (s.cfg.ampsMin.toInt ≤ sp.toInt ∧ sp.toInt ≤ s.cfg.ampsMax.toInt) →
      exec (.setAmps sp) s = .next (s.violated .cvSetpointRange 0x14))

/-- R146: SET_UNDEFINED switches the mode, keeps the setpoint and always ends in OK. -/
def Obligations.SetUndefinedKeepsSetpoint : Prop :=
  ∀ (s : State), Ready s →
    IssuedAs .setUndefined 0x23 1 ∧
    exec .setUndefined s = .next { s with mode := .undefined, response := ⟨.ok, .none⟩ }

/-- The mode and setpoint a halt leaves (R160, R161). -/
def haltTarget (s : State) : Mode × U16 :=
  if s.telem = .noTelemetry then (.undefined, s.setpoint)
  else if s.mode = .position ∧ s.snap.wPosition = true then (.position, s.snap.position)
  else if s.mode = .position ∨ s.mode = .undefined then (.undefined, s.setpoint)
  else (s.mode, 0)

/-- R160 to R162: a halt neutralizes the setpoint or falls back to Undefined and, when connected, sends at once
the one frame of the resulting mode, or none if it has none; R is not restarted. (Legacy Amps is
FaultStopsTheBlock's.) -/
def Obligations.HaltNeutralizesAndEmits : Prop :=
  (∀ (s : State), Ready s →
    exec (.halt 0) s = .next { s with
      mode := (haltTarget s).1, setpoint := (haltTarget s).2, response := ⟨.ok, .haltSent none⟩ }) ∧
  (∀ (s : State), Ready s → (haltTarget s).1 = .undefined →
    exec (.halt 1) s = .next { s with
      mode := (haltTarget s).1, setpoint := (haltTarget s).2, response := ⟨.ok, .haltSent none⟩ }) ∧
  (∀ (s : State) (e : TxEvent), Ready s →
    commandFrame s.cfg (haltTarget s).1 (haltTarget s).2 = some e →
    exec (.halt 1) s = .next { s with
      mode := (haltTarget s).1, setpoint := (haltTarget s).2, trace := s.trace ++ [e]
      sendDraws := s.sendDraws + 1, response := ⟨.ok, .haltSent (some s.nextAnswer)⟩ })

/-! ## Frame ingestion -/

/-- `i` delivers a frame of the class `base` to node `node`: RX_FRAME with that identifier, or the wire row,
which is an operation by the model's choice (notes/assumptions/11.md). -/
def Delivers (i : Instr) (base : Nat) (row : NodeId → Byte → Payload → U64 → U64 → Instr) (node : NodeId)
    (length : Byte) (p : Payload) (timestamp nowUs : U64) : Prop :=
  i = .rxFrame (BitVec.ofNat 16 (base + node.toNat)) length p timestamp nowUs ∨
    i = row node length p timestamp nowUs

/-- A frame for another node, any frame while the controller is unconfigured, and a frame of a class that is no
telemetry class, are not consumed and change nothing. For RX_FRAME this is R124 and R128; that the four
telemetry rows are operations that deliver frames is the model's choice (notes/assumptions/11.md). -/
def Obligations.FramesForOthersAreNotConsumed : Prop :=
  (∀ (s : State) (cobId : U16) (length : Byte) (p : Payload) (timestamp nowUs : U64), Ready s →
    length.toNat ≤ 8 → cobId.toNat ≤ 0x7FF →
    (s.cfg.nodeId = 0 ∨ cobId.toNat % 128 ≠ s.cfg.nodeId.toNat ∨
      cobId.toNat / 128 ∉ [3, 5, 7, 9]) →
    exec (.rxFrame cobId length p timestamp nowUs) s = .next (s.answered (.rx false none))) ∧
  (∀ (s : State) (node : NodeId) (length : Byte) (p : Payload) (timestamp nowUs : U64) (i : Instr), Ready s →
    length.toNat ≤ 8 → ¬ AddressedTo s node →
    i ∈ [Instr.tpdoPrimary node length p timestamp nowUs, .tpdoSecondary node length p timestamp nowUs,
      .tpdoTertiary node length p timestamp nowUs, .tpdoQuaternary node length p timestamp nowUs] →
    exec i s = .next (s.answered (.rx false none)))

/-- A received frame longer than 8 bytes, then one with an identifier wider than 11 bits, is a contract
violation before the node is looked at (R123, spec/42_controller_rx.md section 1). That the four telemetry rows
are operations with the same length check is the model's choice (notes/assumptions/11.md). -/
def Obligations.ReceivedFrameIsCheckedFirst : Prop :=
  ∀ (s : State) (cobId : U16) (node : NodeId) (length : Byte) (p : Payload) (timestamp nowUs : U64), Ready s →
    (8 < length.toNat →
      exec (.rxFrame cobId length p timestamp nowUs) s = .next (s.violated .cvLength 0x18) ∧
      exec (.tpdoPrimary node length p timestamp nowUs) s = .next (s.violated .cvLength 0x18) ∧
      exec (.tpdoSecondary node length p timestamp nowUs) s = .next (s.violated .cvLength 0x18) ∧
      exec (.tpdoTertiary node length p timestamp nowUs) s = .next (s.violated .cvLength 0x18) ∧
      exec (.tpdoQuaternary node length p timestamp nowUs) s = .next (s.violated .cvLength 0x18)) ∧
    (length.toNat ≤ 8 → 0x7FF < cobId.toNat →
      exec (.rxFrame cobId length p timestamp nowUs) s = .next (s.violated .cvCobRange 0x12))

/-- A full primary frame under CANopenV2 stores its four fields; if any of bits 14 to 8 of its status word is set
it sends one fault-ACK and counts it, saturating, whatever the transport answers; and it is proof of life either
way. For RX_FRAME this is R132 and R133; that the row tpdoPrimary is an operation is the model's choice
(notes/assumptions/11.md). -/
def Obligations.PrimaryV2Telemetry : Prop :=
  ∀ (s : State) (node : NodeId) (b0 b1 b2 b3 b4 b5 b6 b7 : Byte) (timestamp nowUs : U64) (i : Instr), Ready s →
    AddressedTo s node → s.cfg.protocol = .canopenV2 →
    Delivers i 0x180 .tpdoPrimary node 8 ⟨b0, b1, b2, b3, b4, b5, b6, b7⟩ timestamp nowUs →
    (b1.toNat % 128 = 0 →
      exec i s = .next { s with
        snap := { s.snap with
          status := b1 ++ b0, position := b3 ++ b2, speed := b5 ++ b4, amps := b7 ++ b6
          wStatus := true, wPosition := true, wSpeed := true, wAmps := true }
        healthStart := nowUs, telem := .telemetryPresent
        response := ⟨.ok, .rx true (some false)⟩ }) ∧
    (b1.toNat % 128 ≠ 0 →
      exec i s = .next { s with
        snap := { s.snap with
          status := b1 ++ b0, position := b3 ++ b2, speed := b5 ++ b4, amps := b7 ++ b6
          wStatus := true, wPosition := true, wSpeed := true, wAmps := true }
        trace := s.trace ++ [⟨BitVec.ofNat 11 (0x200 + node.toNat),
          ⟨0x02, 0x00, Config.faultAckDummy, 0, 0, 0, 0, 0⟩⟩]
        sendDraws := s.sendDraws + 1
        faultAckCount := if s.faultAckCount = 0xFFFFFFFF then 0xFFFFFFFF else s.faultAckCount + 1
        healthStart := nowUs, telem := .telemetryPresent
        response := ⟨.ok, .rx true (some true)⟩ })

/-- A full primary frame under Legacy stores bytes 4 and 5, as position with an encoder and as speed without one,
evaluates no fault, and is proof of life. For RX_FRAME this is R131; that the row tpdoPrimary is an operation is
the model's choice (notes/assumptions/11.md). -/
def Obligations.PrimaryLegacyTelemetry : Prop :=
  ∀ (s : State) (node : NodeId) (b0 b1 b2 b3 b4 b5 b6 b7 : Byte) (timestamp nowUs : U64) (i : Instr), Ready s →
    AddressedTo s node → s.cfg.protocol = .legacy →
    Delivers i 0x180 .tpdoPrimary node 8 ⟨b0, b1, b2, b3, b4, b5, b6, b7⟩ timestamp nowUs →
    (s.cfg.encoderPresent = true →
      exec i s = .next { s with
        snap := { s.snap with position := b5 ++ b4, wPosition := true }
        healthStart := nowUs, telem := .telemetryPresent
        response := ⟨.ok, .rx true (some false)⟩ }) ∧
    (s.cfg.encoderPresent = false →
      exec i s = .next { s with
        snap := { s.snap with speed := b5 ++ b4, wSpeed := true }
        healthStart := nowUs, telem := .telemetryPresent
        response := ⟨.ok, .rx true (some false)⟩ })

/-- A frame that is not full, on a channel that matched, is consumed and changes nothing; a primary one is no proof
of life and acknowledges no fault. (The Legacy secondary without an encoder is SecondaryChannel's.) For RX_FRAME
this is R126; that the four telemetry rows are operations is the model's choice (notes/assumptions/11.md). -/
def Obligations.ShortFramesChangeNothing : Prop :=
  ∀ (s : State) (node : NodeId) (length : Byte) (p : Payload) (timestamp nowUs : U64) (i : Instr), Ready s →
    AddressedTo s node → length.toNat < 8 →
    (Delivers i 0x180 .tpdoPrimary node length p timestamp nowUs →
      exec i s = .next (s.answered (.rx true (some false)))) ∧
    (Delivers i 0x280 .tpdoSecondary node length p timestamp nowUs →
      ¬ (s.cfg.protocol = .legacy ∧ s.cfg.encoderPresent = false) →
      exec i s = .next (s.answered (.rx true none))) ∧
    (Delivers i 0x380 .tpdoTertiary node length p timestamp nowUs →
      exec i s = .next (s.answered (.rx true none))) ∧
    (Delivers i 0x480 .tpdoQuaternary node length p timestamp nowUs →
      exec i s = .next (s.answered (.rx true none)))

/-- The secondary channel stores speed under Legacy with an encoder, is a contract violation under Legacy without
one at every length, and carries no field under CANopenV2. For RX_FRAME this is R135 to R137; that the row
tpdoSecondary is an operation is the model's choice (notes/assumptions/11.md). -/
def Obligations.SecondaryChannel : Prop :=
  ∀ (s : State) (node : NodeId) (length : Byte) (b0 b1 b2 b3 b4 b5 b6 b7 : Byte) (timestamp nowUs : U64)
    (i : Instr), Ready s → AddressedTo s node → length.toNat ≤ 8 →
    Delivers i 0x280 .tpdoSecondary node length ⟨b0, b1, b2, b3, b4, b5, b6, b7⟩ timestamp nowUs →
    (s.cfg.protocol = .legacy → s.cfg.encoderPresent = false →
      exec i s = .next (s.violated .cvLegacySecondaryNoEncoder 0x17)) ∧
    (s.cfg.protocol = .legacy → s.cfg.encoderPresent = true → length = 8 →
      exec i s = .next { s with
        snap := { s.snap with speed := b5 ++ b4, wSpeed := true }, response := ⟨.ok, .rx true none⟩ }) ∧
    (s.cfg.protocol = .legacy → s.cfg.encoderPresent = true → length ≠ 8 →
      exec i s = .next (s.answered (.rx true none))) ∧
    (s.cfg.protocol = .canopenV2 → exec i s = .next (s.answered (.rx true none)))

/-- The tertiary channel stores the combined fault/status word of a full frame under Legacy, and is consumed with
no effect otherwise. For RX_FRAME this is R138; that the row tpdoTertiary is an operation is the model's choice
(notes/assumptions/11.md). -/
def Obligations.TertiaryChannel : Prop :=
  ∀ (s : State) (node : NodeId) (length : Byte) (b0 b1 b2 b3 b4 b5 b6 b7 : Byte) (timestamp nowUs : U64)
    (i : Instr), Ready s → AddressedTo s node → length.toNat ≤ 8 →
    Delivers i 0x380 .tpdoTertiary node length ⟨b0, b1, b2, b3, b4, b5, b6, b7⟩ timestamp nowUs →
    (s.cfg.protocol = .legacy → length = 8 →
      exec i s = .next { s with
        snap := { s.snap with legacyFs := b1 ++ b0, wLegacyFs := true }
        response := ⟨.ok, .rx true none⟩ }) ∧
    (¬ (s.cfg.protocol = .legacy ∧ length = 8) → exec i s = .next (s.answered (.rx true none)))

/-- A quaternary frame is consumed and changes nothing, under both variants and at every length. For RX_FRAME this
is R127; that the row tpdoQuaternary is an operation is the model's choice (notes/assumptions/11.md). -/
def Obligations.QuaternaryChannel : Prop :=
  ∀ (s : State) (node : NodeId) (length : Byte) (p : Payload) (timestamp nowUs : U64) (i : Instr), Ready s →
    AddressedTo s node → length.toNat ≤ 8 →
    Delivers i 0x480 .tpdoQuaternary node length p timestamp nowUs →
    exec i s = .next (s.answered (.rx true none))

/-! ## Getters -/

/-- R164 to R168: with telemetry present, a field the variant provides and a parser has written is answered;
speed and amps are signed. The provided fields are the table of spec/43_controller_commands.md section 4. -/
def Obligations.GettersAnswerWrittenFields : Prop :=
  ∀ (s : State), Ready s → s.telem = .telemetryPresent →
    (¬ (s.cfg.protocol = .legacy ∧ s.cfg.encoderPresent = false) → s.snap.wPosition = true →
      exec .getPosition s = .next (s.answered (.word s.snap.position))) ∧
    (s.snap.wSpeed = true → exec .getSpeed s = .next (s.answered (.signed s.snap.speed.toInt))) ∧
    (s.cfg.protocol = .canopenV2 → s.snap.wAmps = true →
      exec .getAmps s = .next (s.answered (.signed s.snap.amps.toInt))) ∧
    (s.cfg.protocol = .canopenV2 → s.snap.wStatus = true →
      exec .getStatusWord s = .next (s.answered (.word s.snap.status))) ∧
    (s.cfg.protocol = .legacy → s.snap.wLegacyFs = true →
      exec .getLegacyFaultStatus s = .next (s.answered (.word s.snap.legacyFs))) ∧
    IssuedAs .getPosition 0x30 1 ∧ IssuedAs .getSpeed 0x31 1 ∧ IssuedAs .getAmps 0x32 1 ∧
    IssuedAs .getStatusWord 0x33 1 ∧ IssuedAs .getLegacyFaultStatus 0x34 1

/-- R163, with the table of R169: a getter refuses without telemetry, then a field the variant never writes,
then a field not written since reset, and latches nothing else. -/
def Obligations.GettersRefuseOtherwise : Prop :=
  (∀ (s : State) (i : Instr), Ready s → s.telem = .noTelemetry →
    i ∈ [Instr.getPosition, .getSpeed, .getAmps, .getStatusWord, .getLegacyFaultStatus] →
    exec i s = .next (s.violated .cvNoTelemetry 0x15)) ∧
  (∀ (s : State), Ready s → s.telem = .telemetryPresent →
    (s.cfg.protocol = .legacy ∧ s.cfg.encoderPresent = false ∨ s.snap.wPosition = false →
      exec .getPosition s = .next (s.violated .cvFieldInvalid 0x19)) ∧
    (s.snap.wSpeed = false → exec .getSpeed s = .next (s.violated .cvFieldInvalid 0x19)) ∧
    (s.cfg.protocol = .legacy ∨ s.snap.wAmps = false →
      exec .getAmps s = .next (s.violated .cvFieldInvalid 0x19)) ∧
    (s.cfg.protocol = .legacy ∨ s.snap.wStatus = false →
      exec .getStatusWord s = .next (s.violated .cvFieldInvalid 0x19)) ∧
    (s.cfg.protocol = .canopenV2 ∨ s.snap.wLegacyFs = false →
      exec .getLegacyFaultStatus s = .next (s.violated .cvFieldInvalid 0x19)))

/-! ## Registers and reset -/

/-- The numbered registers with their values, bit patterns zero-extended (R20 to R34, R170). -/
def registerMap (s : State) : List (Byte × U32) :=
  [(0x00, s.cfg.nodeId.setWidth 32),
   (0x01, if s.cfg.protocol = .legacy then 0 else 1),
   (0x02, if s.cfg.encoderPresent = true then 1 else 0),
   (0x03, s.cfg.rpdoIntervalUs), (0x04, s.cfg.healthTimeoutUs),
   (0x05, s.cfg.posMin.setWidth 32), (0x06, s.cfg.posMax.setWidth 32),
   (0x07, s.cfg.speedMin.setWidth 32), (0x08, s.cfg.speedMax.setWidth 32),
   (0x09, s.cfg.ampsMin.setWidth 32), (0x0A, s.cfg.ampsMax.setWidth 32),
   (0x10, if s.telem = .noTelemetry then 0 else 1),
   (0x11, if s.mode = .undefined then 0 else if s.mode = .position then 1
      else if s.mode = .speed then 2 else 3),
   (0x12, s.setpoint.setWidth 32), (0x13, s.faultAckCount),
   (0x14, (s.cvFirstCode ++ (0 : BitVec 7) ++ BitVec.ofBool s.cvLatched).setWidth 32),
   (0x15, (s.faultCode ++ (0 : BitVec 7) ++ BitVec.ofBool s.faulted).setWidth 32)]

/-- R170: READ_REG answers each numbered register's value and refuses every other number. -/
def Obligations.ReadRegReadsEachRegister : Prop :=
  ∀ (s : State), Ready s →
    (∀ r v, (r, v) ∈ registerMap s → exec (.readReg r) s = .next (s.answered (.reg v))) ∧
    (∀ r : Byte, r ∉ (registerMap s).map (·.1) →
      exec (.readReg r) s = .next (s.violated .illegalOp 0x1B)) ∧
    (∀ r : Byte, IssuedAs (.readReg r) 0x38 2)

/-- `Legal(reg, value)` of R171. -/
def LegalConfig (reg : Byte) (value : U32) : Prop :=
  (reg = 0x00 → value.toNat ≤ 127) ∧ (reg = 0x01 ∨ reg = 0x02 → value.toNat ≤ 1) ∧
    (5 ≤ reg.toNat → value.toNat ≤ 0xFFFF)

/-- The configuration with register `reg` holding `value`. -/
def configWith (c : CfgRegs) (reg : Byte) (value : U32) : CfgRegs :=
  if reg = 0x00 then { c with nodeId := BitVec.ofNat 7 value.toNat }
  else if reg = 0x01 then { c with protocol := if value = 0 then .legacy else .canopenV2 }
  else if reg = 0x02 then { c with encoderPresent := decide (value ≠ 0) }
  else if reg = 0x03 then { c with rpdoIntervalUs := value }
  else if reg = 0x04 then { c with healthTimeoutUs := value }
  else if reg = 0x05 then { c with posMin := BitVec.ofNat 16 value.toNat }
  else if reg = 0x06 then { c with posMax := BitVec.ofNat 16 value.toNat }
  else if reg = 0x07 then { c with speedMin := BitVec.ofNat 16 value.toNat }
  else if reg = 0x08 then { c with speedMax := BitVec.ofNat 16 value.toNat }
  else if reg = 0x09 then { c with ampsMin := BitVec.ofNat 16 value.toNat }
  else { c with ampsMax := BitVec.ofNat 16 value.toNat }

/-- R171 to R174: WRITE_CONFIG checks register, value and the Legacy-in-Amps refusal in that order, then writes
that register alone; node 0 also loses telemetry. -/
def Obligations.WriteConfigWritesOneRegister : Prop :=
  ∀ (s : State) (reg : Byte) (value : U32), Ready s →
    IssuedAs (.writeConfig reg value) 0x39 6 ∧
    (0x0A < reg.toNat → exec (.writeConfig reg value) s = .next (s.violated .illegalOp 0x1B)) ∧
    (reg.toNat ≤ 0x0A → ¬ LegalConfig reg value →
      exec (.writeConfig reg value) s = .next (s.violated .cvConfigValue 0x1A)) ∧
    (reg = 0x01 → value = 0 → s.mode = .amps →
      exec (.writeConfig reg value) s = .next (s.violated .cvUnsupportedMode 0x16)) ∧
    (reg.toNat ≤ 0x0A → LegalConfig reg value → ¬ (reg = 0x01 ∧ value = 0 ∧ s.mode = .amps) →
      ¬ (reg = 0x00 ∧ value = 0) →
      exec (.writeConfig reg value) s = .next { s with
        cfg := configWith s.cfg reg value, response := ⟨.ok, .none⟩ }) ∧
    (reg = 0x00 → value = 0 →
      exec (.writeConfig reg value) s = .next { s with
        cfg := { s.cfg with nodeId := 0 }, telem := .noTelemetry, mode := .undefined
        faultAckCount := 0, response := ⟨.ok, .none⟩ })

/-- R196: RESET sets every register from its operands or to its reset value, in any state, faulted, before the
first RESET or otherwise, and empties the trace (R197); a refused one changes the latch alone. What stands at
the port and the draw counters are the model's own and go on (notes/assumptions/15.md). -/
def Obligations.ResetSetsEveryRegister : Prop :=
  ∀ (s : State) (node protocol encoder : Byte) (rpdoUs healthUs : U32)
    (pmin pmax smin smax amin amax : U16) (nowUs : U64),
    IssuedAs (.reset node protocol encoder rpdoUs healthUs pmin pmax smin smax amin amax nowUs) 0xF0 32 ∧
    (127 < node.toNat ∨ 1 < protocol.toNat ∨ 1 < encoder.toNat →
      exec (.reset node protocol encoder rpdoUs healthUs pmin pmax smin smax amin amax nowUs) s =
        .next (s.violated .cvConfigValue 0x1A)) ∧
    (node.toNat ≤ 127 → protocol.toNat ≤ 1 → encoder.toNat ≤ 1 →
      exec (.reset node protocol encoder rpdoUs healthUs pmin pmax smin smax amin amax nowUs) s =
        .next {
          cfg := {
            nodeId := BitVec.ofNat 7 node.toNat
            protocol := if protocol = 0 then .legacy else .canopenV2
            encoderPresent := decide (encoder ≠ 0)
            rpdoIntervalUs := rpdoUs, healthTimeoutUs := healthUs
            posMin := pmin, posMax := pmax, speedMin := smin, speedMax := smax
            ampsMin := amin, ampsMax := amax }
          telem := .noTelemetry, mode := .undefined, setpoint := 0, faultAckCount := 0
          cvLatched := false, cvFirstCode := 0, faulted := false, faultCode := 0
          snap := {
            position := 0, speed := 0, amps := 0, status := 0, legacyFs := 0
            wPosition := false, wSpeed := false, wAmps := false, wStatus := false, wLegacyFs := false }
          healthStart := nowUs, rpdoStart := nowUs, trace := [], response := ⟨.ok, .none⟩
          port := s.port, initialised := true, sendDraws := s.sendDraws, tieDraws := s.tieDraws })

/-! ## Wire rows -/

/-- A wire row of a frame the block sends, as an operation, sends exactly the frame that encodes it
(notes/assumptions/11.md, spec/30_encoding.md sections 2, 3 and 9), for all thirteen rows and every operand. -/
def Obligations.WireRowsSendTheirFrame : Prop :=
  ∀ (s : State) (i : Instr) (f : Frame), Ready s → encode i = [.frame f] → f.format ≠ .tpdo →
    exec i s = .next ((s.sending f.cobId f.payload).answered (.sent s.nextAnswer))

/-- The pseudo-instruction table of spec/30_encoding.md section 9: each wire row is the one host command it
expands to; the fault-ACK sends the parameter FAULT_ACK_DUMMY. That the rows are these pseudo-instructions is
the model's reading (notes/assumptions/11.md). -/
def Obligations.WireRowsArePseudoInstructions : Prop :=
  ∀ (s : State) (n : NodeId) (index sp : U16) (sub d1 : Byte) (d2 : U16) (d4 : U32),
    exec (.sdoDownload1B n index sub d1) s =
      exec (.sdoWrite (n.setWidth 8) index sub 1 (d1.setWidth 32)) s ∧
    exec (.sdoDownload2B n index sub d2) s =
      exec (.sdoWrite (n.setWidth 8) index sub 2 (d2.setWidth 32)) s ∧
    exec (.sdoDownload4B n index sub d4) s = exec (.sdoWrite (n.setWidth 8) index sub 4 d4) s ∧
    exec (.sdoUploadReq1B n index sub) s = exec (.sdoReadReq (n.setWidth 8) index sub 1) s ∧
    exec (.sdoUploadReq2B n index sub) s = exec (.sdoReadReq (n.setWidth 8) index sub 2) s ∧
    exec (.sdoUploadReq4B n index sub) s = exec (.sdoReadReq (n.setWidth 8) index sub 4) s ∧
    exec (.v2CmdPosition n sp) s = exec (.rpdoSend (n.setWidth 8) 0x200 0x0021 2 2 (sp.setWidth 32)) s ∧
    exec (.v2CmdSpeed n sp) s = exec (.rpdoSend (n.setWidth 8) 0x200 0x0005 4 2 (sp.setWidth 32)) s ∧
    exec (.v2CmdAmps n sp) s = exec (.rpdoSend (n.setWidth 8) 0x200 0x0001 6 2 (sp.setWidth 32)) s ∧
    exec (.v2FaultAck n) s =
      exec (.rpdoSend (n.setWidth 8) 0x200 0x0002 2 1 (Config.faultAckDummy.setWidth 32)) s ∧
    exec (.legacyCmdPosition n sp) s = exec (.rpdoSend (n.setWidth 8) 0x200 sp 4 1 (n.setWidth 32)) s ∧
    exec (.legacyCmdSpeedEncoder n sp) s =
      exec (.rpdoSend (n.setWidth 8) 0x300 sp 4 1 (n.setWidth 32)) s ∧
    exec (.legacyCmdSpeedNoEncoder n sp) s =
      exec (.rpdoSend (n.setWidth 8) 0x200 sp 4 1 (n.setWidth 32)) s

/-! ## Whole-machine rules -/

/-- The state after reset meets the block's invariant. -/
def Obligations.ResetMeetsBlockInvariant : Prop := BlockInvariant State.reset

/-- Every step keeps the block's invariant: an unconfigured node has no telemetry, without telemetry the
counter is 0, Legacy Amps is never reached and so the block never faults, and unwritten registers hold their
reset values (invariants the spec derives in spec/10_state.md section 8 and spec/43_controller_commands.md
section 2). -/
def Obligations.StepKeepsBlockInvariant : Prop :=
  ∀ (s t : State), BlockInvariant s → step s = .next t → BlockInvariant t

/-- R19: no operation but WRITE_CONFIG and RESET changes a configuration register. -/
def Obligations.ConfigurationOnlyByHostWrites : Prop :=
  ∀ (s t : State) (i : Instr), ¬ IsReset i → (∀ reg value, i ≠ .writeConfig reg value) →
    exec i s = .next t → t.cfg = s.cfg

/-- `i` is a full primary frame of the configured node, by RX_FRAME or by its row (notes/assumptions/11.md). -/
def IsFullPrimary (s : State) (i : Instr) (nowUs : U64) : Prop :=
  ∃ (node : NodeId) (p : Payload) (timestamp : U64),
    AddressedTo s node ∧ Delivers i 0x180 .tpdoPrimary node 8 p timestamp nowUs

/-- Every full primary frame, whatever its bits, the mode or the protocol, sets TELEM_STATE to 1 and restarts H;
nothing else sets TELEM_STATE to 1, and nothing else but RESET changes HEALTH_START. For RX_FRAME this is R130;
that the row tpdoPrimary counts as such a frame is the model's choice (notes/assumptions/11.md). -/
def Obligations.OnlyFullPrimaryIsProofOfLife : Prop :=
  (∀ (s : State) (i : Instr) (nowUs : U64), Ready s → IsFullPrimary s i nowUs →
    ∃ t, exec i s = .next t ∧ t.telem = .telemetryPresent ∧ t.healthStart = nowUs) ∧
  (∀ (s t : State) (i : Instr), Ready s → exec i s = .next t → (∀ nowUs, ¬ IsFullPrimary s i nowUs) →
    (t.telem = .telemetryPresent → s.telem = .telemetryPresent) ∧
    (¬ IsReset i → t.healthStart = s.healthStart))

/-- Each operation appends at most one event to the output trace, counted with its transport answer, and
RESET alone removes any (spec/10_state.md section 7: "Each operation appends at most one event"). -/
def Obligations.AtMostOneFramePerOperation : Prop :=
  ∀ (s t : State) (i : Instr), ¬ IsReset i → exec i s = .next t →
    (t.trace = s.trace ∧ t.sendDraws = s.sendDraws) ∨
    (∃ e, t.trace = s.trace ++ [e] ∧ t.sendDraws = s.sendDraws + 1)

/-- R33: the latch records the first violation since reset and nothing but RESET clears or changes it; unlatched
it is 0 throughout, by BlockInvariant. -/
def Obligations.FirstViolationStaysLatched : Prop :=
  ∀ (s t : State) (i : Instr), ¬ IsReset i → exec i s = .next t →
    (s.cvLatched = true → t.cvLatched = true ∧ t.cvFirstCode = s.cvFirstCode) ∧
    (s.cvLatched = false →
      (t.cvLatched = false ∧ t.cvFirstCode = s.cvFirstCode ∧ violationCode t.response.status = none) ∨
      (t.cvLatched = true ∧ violationCode t.response.status = some t.cvFirstCode))

/-- R35: only received frames write the snapshot, and RESET clears it: it survives telemetry loss. -/
def Obligations.SnapshotSurvivesTelemetryLoss : Prop :=
  ∀ (s t : State) (i : Instr), ¬ IsReset i →
    (∀ cobId length p timestamp nowUs, i ≠ .rxFrame cobId length p timestamp nowUs) →
    (∀ node length p timestamp nowUs, i ≠ .tpdoPrimary node length p timestamp nowUs ∧
      i ≠ .tpdoSecondary node length p timestamp nowUs ∧ i ≠ .tpdoTertiary node length p timestamp nowUs) →
    exec i s = .next t → t.snap = s.snap

/-- R31: the setpoint is written by the three validating setters and by halt, besides RESET, and by nothing
else. -/
def Obligations.SetpointOnlyBySettersAndHalt : Prop :=
  ∀ (s t : State) (i : Instr), ¬ IsReset i →
    (∀ v, i ≠ .setPosition v ∧ i ≠ .setSpeed v ∧ i ≠ .setAmps v) → (∀ flags, i ≠ .halt flags) →
    exec i s = .next t → t.setpoint = s.setpoint

/-- R32: FAULT_ACK_COUNT stays, or goes up by one (saturating) with one fault-ACK sent, or is cleared together
with the telemetry axis. -/
def Obligations.FaultAckCountMoves : Prop :=
  ∀ (s t : State) (i : Instr), exec i s = .next t →
    t.faultAckCount = s.faultAckCount ∨
    (t.faultAckCount.toNat = min (s.faultAckCount.toNat + 1) 0xFFFFFFFF ∧
      t.trace = s.trace ++ [faultAckWireFrame s.cfg.nodeId]) ∨
    (t.faultAckCount = 0 ∧ t.telem = .noTelemetry)

/-- R39: RPDO_START is restarted only by the tick, at its own time, besides RESET. -/
def Obligations.RpdoTimerRestartedOnlyByTick : Prop :=
  ∀ (s t : State) (i : Instr), ¬ IsReset i → exec i s = .next t →
    t.rpdoStart = s.rpdoStart ∨ ∃ flags nowUs, i = .execute flags nowUs ∧ t.rpdoStart = nowUs

/-- While less than the (non-zero) RPDO interval has passed since RPDO_START, a tick, connected or not, with
telemetry or without, fires nothing, sends nothing and keeps RPDO_START; without telemetry a tick sends nothing
at any time. So after an accepted RESET at `start`, whatever operations follow (telemetry may arrive, modes may
be set) as long as they tick before the interval has passed and neither reset nor rewrite the interval, a tick
within the interval fires and sends nothing (spec/70_reset_and_hazards.md section 1, which the spec derives).
HALT and the fault-ACK may send earlier, and no clause says otherwise. -/
def Obligations.NoTickSendsBeforeInterval : Prop :=
  (∀ (s : State) (flags : Byte) (nowUs : U64), Ready s → flags.toNat < 2 → 0 < s.cfg.rpdoIntervalUs.toNat →
    nowUs.toNat < s.rpdoStart.toNat + s.cfg.rpdoIntervalUs.toNat →
    ∃ t loss, exec (.execute flags nowUs) s = .next t ∧ t.response = ⟨.ok, .tick loss false none⟩ ∧
      t.trace = s.trace ∧ t.sendDraws = s.sendDraws ∧ t.rpdoStart = s.rpdoStart) ∧
  (∀ (s : State) (flags : Byte) (nowUs : U64), Ready s → flags.toNat < 2 → s.telem = .noTelemetry →
    ∃ t, exec (.execute flags nowUs) s = .next t ∧ t.trace = s.trace ∧ t.telem = .noTelemetry) ∧
  (∀ (s t u : State) (node protocol encoder : Byte) (rpdoUs healthUs : U32)
    (pmin pmax smin smax amin amax : U16) (start nowUs : U64) (flags : Byte) (ops : List Instr),
    exec (.reset node protocol encoder rpdoUs healthUs pmin pmax smin smax amin amax start) s = .next t →
    t.response.status = .ok → 0 < rpdoUs.toNat → Runs t ops u →
    (∀ i ∈ ops, ¬ IsReset i ∧ (∀ value, i ≠ .writeConfig 0x03 value) ∧
      ∀ f n, i = .execute f n → n.toNat < start.toNat + rpdoUs.toNat) →
    flags.toNat < 2 → nowUs.toNat < start.toNat + rpdoUs.toNat →
    ∃ v loss, exec (.execute flags nowUs) u = .next v ∧ v.response = ⟨.ok, .tick loss false none⟩ ∧
      v.trace = u.trace ∧ v.rpdoStart = start)

/-- A telemetry row, as an operation, is RX_FRAME of a frame with that class's identifier (spec/20_memory.md
section 2), in every state. That it is an operation at all is the model's choice (notes/assumptions/11.md). -/
def Obligations.TelemetryRowsAreRxFrames : Prop :=
  ∀ (s : State) (node : NodeId) (length : Byte) (p : Payload) (timestamp nowUs : U64),
    exec (.tpdoPrimary node length p timestamp nowUs) s =
      exec (.rxFrame (BitVec.ofNat 16 (0x180 + node.toNat)) length p timestamp nowUs) s ∧
    exec (.tpdoSecondary node length p timestamp nowUs) s =
      exec (.rxFrame (BitVec.ofNat 16 (0x280 + node.toNat)) length p timestamp nowUs) s ∧
    exec (.tpdoTertiary node length p timestamp nowUs) s =
      exec (.rxFrame (BitVec.ofNat 16 (0x380 + node.toNat)) length p timestamp nowUs) s ∧
    exec (.tpdoQuaternary node length p timestamp nowUs) s =
      exec (.rxFrame (BitVec.ofNat 16 (0x480 + node.toNat)) length p timestamp nowUs) s
end

