-- ==== Sys2Proof/Laws/Decode.lean ====
section
/-! SUPPORT. The decoder's readers undo the encoder's field layouts. -/

namespace Sys2Proof

@[simp] theorem except_ok_bind {ε α β : Type} (a : α) (f : α → Except ε β) :
    (Except.ok a >>= f) = f a := rfl

@[simp] theorem except_error_bind {ε α β : Type} (e : ε) (f : α → Except ε β) :
    (Except.error e >>= f : Except ε β) = Except.error e := rfl

@[simp] theorem except_pure {ε α : Type} (a : α) : (pure a : Except ε α) = Except.ok a := rfl

@[simp] theorem hostItems_nil : hostItems [] = [] := rfl

@[simp] theorem hostItems_cons (b : Byte) (l : List Byte) :
    hostItems (b :: l) = .byte b :: hostItems l := rfl

@[simp] theorem hostItems_append (l m : List Byte) : hostItems (l ++ m) = hostItems l ++ hostItems m :=
  List.map_append

@[simp] theorem readU8_byte (op b : Byte) (r : List PortItem) : readU8 op (.byte b :: r) = .ok (b, r) := rfl

theorem le16_bytes (v : U16) : le16 (v.extractLsb' 0 8) (v.extractLsb' 8 8) = v := by
  unfold le16
  apply BitVec.eq_of_getLsbD_eq
  intro i hi
  simp only [BitVec.getLsbD_append, BitVec.getLsbD_extractLsb']
  split
  · simp [*]
  · have hlt : i - 8 < 8 := by omega
    have hsum : 8 + (i - 8) = i := by omega
    simp [hlt, hsum]

theorem le32_halves (v : U32) : le32 (v.extractLsb' 0 16) (v.extractLsb' 16 16) = v := by
  unfold le32
  apply BitVec.eq_of_getLsbD_eq
  intro i hi
  simp only [BitVec.getLsbD_append, BitVec.getLsbD_extractLsb']
  split
  · simp [*]
  · have hlt : i - 16 < 16 := by omega
    have hsum : 16 + (i - 16) = i := by omega
    simp [hlt, hsum]

theorem le64_halves (v : U64) : le64 (v.extractLsb' 0 32) (v.extractLsb' 32 32) = v := by
  unfold le64
  apply BitVec.eq_of_getLsbD_eq
  intro i hi
  simp only [BitVec.getLsbD_append, BitVec.getLsbD_extractLsb']
  split
  · simp [*]
  · have hlt : i - 32 < 32 := by omega
    have hsum : 32 + (i - 32) = i := by omega
    simp [hlt, hsum]

@[simp] theorem readU16_bytes16 (op : Byte) (v : U16) (r : List PortItem) :
    readU16 op (hostItems (bytes16 v) ++ r) = .ok (v, r) := by
  simp [readU16, bytes16, le16_bytes]

@[simp] theorem readU32_bytes32 (op : Byte) (v : U32) (r : List PortItem) :
    readU32 op (hostItems (bytes32 v) ++ r) = .ok (v, r) := by
  simp [readU32, bytes32, le32_halves]

@[simp] theorem readU64_bytes64 (op : Byte) (v : U64) (r : List PortItem) :
    readU64 op (hostItems (bytes64 v) ++ r) = .ok (v, r) := by
  simp [readU64, bytes64, le64_halves]

@[simp] theorem readPayload_bytes (op : Byte) (p : Payload) (r : List PortItem) :
    readPayload op (hostItems (payloadBytes p) ++ r) = .ok (p, r) := by
  simp [readPayload, payloadBytes]

/-! The command codes of R68 as their two bytes. -/

@[simp] theorem le16_v2Position : le16 0x21#8 0#8 = 0x21#16 := rfl
@[simp] theorem le16_v2Speed : le16 0x05#8 0#8 = 0x05#16 := rfl
@[simp] theorem le16_v2Amps : le16 0x01#8 0#8 = 0x01#16 := rfl
@[simp] theorem le16_v2FaultAck : le16 0x02#8 0#8 = 0x02#16 := rfl

/-! The class and the node of an identifier built from a class base (R50, R61). -/

@[simp] theorem cobClass_cobOf_180 : ∀ node : NodeId, cobClass (cobOf 0x180#11 node) = 0x180#11 := by
  decide

@[simp] theorem cobNode_cobOf_180 : ∀ node : NodeId, cobNode (cobOf 0x180#11 node) = node := by
  decide

@[simp] theorem cobClass_cobOf_200 : ∀ node : NodeId, cobClass (cobOf 0x200#11 node) = 0x200#11 := by
  decide

@[simp] theorem cobNode_cobOf_200 : ∀ node : NodeId, cobNode (cobOf 0x200#11 node) = node := by
  decide

@[simp] theorem cobClass_cobOf_280 : ∀ node : NodeId, cobClass (cobOf 0x280#11 node) = 0x280#11 := by
  decide

@[simp] theorem cobNode_cobOf_280 : ∀ node : NodeId, cobNode (cobOf 0x280#11 node) = node := by
  decide

@[simp] theorem cobClass_cobOf_300 : ∀ node : NodeId, cobClass (cobOf 0x300#11 node) = 0x300#11 := by
  decide

@[simp] theorem cobNode_cobOf_300 : ∀ node : NodeId, cobNode (cobOf 0x300#11 node) = node := by
  decide

@[simp] theorem cobClass_cobOf_380 : ∀ node : NodeId, cobClass (cobOf 0x380#11 node) = 0x380#11 := by
  decide

@[simp] theorem cobNode_cobOf_380 : ∀ node : NodeId, cobNode (cobOf 0x380#11 node) = node := by
  decide

@[simp] theorem cobClass_cobOf_480 : ∀ node : NodeId, cobClass (cobOf 0x480#11 node) = 0x480#11 := by
  decide

@[simp] theorem cobNode_cobOf_480 : ∀ node : NodeId, cobNode (cobOf 0x480#11 node) = node := by
  decide

@[simp] theorem cobClass_cobOf_600 : ∀ node : NodeId, cobClass (cobOf 0x600#11 node) = 0x600#11 := by
  decide

@[simp] theorem cobNode_cobOf_600 : ∀ node : NodeId, cobNode (cobOf 0x600#11 node) = node := by
  decide

/-- A byte of a half is a byte of the whole. -/
theorem extract_extract (v : U32) (a b : Nat) (h : b + 8 ≤ 16) :
    (v.extractLsb' a 16).extractLsb' b 8 = v.extractLsb' (a + b) 8 := by
  apply BitVec.eq_of_getLsbD_eq
  intro i hi
  have hlt : b + i < 16 := by omega
  simp [hi, hlt, Nat.add_assoc]

/-- A value's four bytes, low byte first, make it up again (R53). -/
theorem le32_bytes (v : U32) :
    le32 (le16 (v.extractLsb' 0 8) (v.extractLsb' 8 8)) (le16 (v.extractLsb' 16 8) (v.extractLsb' 24 8)) =
      v := by
  rw [← extract_extract v 0 0 (by decide), ← extract_extract v 0 8 (by decide),
    ← extract_extract v 16 0 (by decide), ← extract_extract v 16 8 (by decide), le16_bytes, le16_bytes,
    le32_halves]

end Sys2Proof
end

