-- ==== Sys2Proof/Laws/State.lean ====
section
/-! SUPPORT. What each shared update of State does to each field: one lemma per field per update. -/

namespace Sys2Proof.Machine

section respond
variable (st : Status) (r : Result) (s : State)

@[simp] theorem respond_cfg : (respond st r s).cfg = s.cfg := rfl
@[simp] theorem respond_telem : (respond st r s).telem = s.telem := rfl
@[simp] theorem respond_mode : (respond st r s).mode = s.mode := rfl
@[simp] theorem respond_setpoint : (respond st r s).setpoint = s.setpoint := rfl
@[simp] theorem respond_faultAckCount : (respond st r s).faultAckCount = s.faultAckCount := rfl
@[simp] theorem respond_cvLatched : (respond st r s).cvLatched = s.cvLatched := rfl
@[simp] theorem respond_cvFirstCode : (respond st r s).cvFirstCode = s.cvFirstCode := rfl
@[simp] theorem respond_faulted : (respond st r s).faulted = s.faulted := rfl
@[simp] theorem respond_faultCode : (respond st r s).faultCode = s.faultCode := rfl
@[simp] theorem respond_snap : (respond st r s).snap = s.snap := rfl
@[simp] theorem respond_healthStart : (respond st r s).healthStart = s.healthStart := rfl
@[simp] theorem respond_rpdoStart : (respond st r s).rpdoStart = s.rpdoStart := rfl
@[simp] theorem respond_trace : (respond st r s).trace = s.trace := rfl
@[simp] theorem respond_response : (respond st r s).response = ⟨st, r⟩ := rfl
@[simp] theorem respond_port : (respond st r s).port = s.port := rfl
@[simp] theorem respond_initialised : (respond st r s).initialised = s.initialised := rfl
@[simp] theorem respond_sendDraws : (respond st r s).sendDraws = s.sendDraws := rfl
@[simp] theorem respond_tieDraws : (respond st r s).tieDraws = s.tieDraws := rfl

end respond

section raiseContractViolation
variable (st : Status) (s : State)

@[simp] theorem raiseContractViolation_cfg : (raiseContractViolation st s).cfg = s.cfg := rfl
@[simp] theorem raiseContractViolation_telem : (raiseContractViolation st s).telem = s.telem := rfl
@[simp] theorem raiseContractViolation_mode : (raiseContractViolation st s).mode = s.mode := rfl
@[simp] theorem raiseContractViolation_setpoint : (raiseContractViolation st s).setpoint = s.setpoint := rfl
@[simp] theorem raiseContractViolation_faultAckCount : (raiseContractViolation st s).faultAckCount = s.faultAckCount := rfl
@[simp] theorem raiseContractViolation_cvLatched : (raiseContractViolation st s).cvLatched = true := rfl
@[simp] theorem raiseContractViolation_cvFirstCode : (raiseContractViolation st s).cvFirstCode = (if s.cvLatched then s.cvFirstCode else statusCode st) := rfl
@[simp] theorem raiseContractViolation_faulted : (raiseContractViolation st s).faulted = s.faulted := rfl
@[simp] theorem raiseContractViolation_faultCode : (raiseContractViolation st s).faultCode = s.faultCode := rfl
@[simp] theorem raiseContractViolation_snap : (raiseContractViolation st s).snap = s.snap := rfl
@[simp] theorem raiseContractViolation_healthStart : (raiseContractViolation st s).healthStart = s.healthStart := rfl
@[simp] theorem raiseContractViolation_rpdoStart : (raiseContractViolation st s).rpdoStart = s.rpdoStart := rfl
@[simp] theorem raiseContractViolation_trace : (raiseContractViolation st s).trace = s.trace := rfl
@[simp] theorem raiseContractViolation_response : (raiseContractViolation st s).response = ⟨st, .none⟩ := rfl
@[simp] theorem raiseContractViolation_port : (raiseContractViolation st s).port = s.port := rfl
@[simp] theorem raiseContractViolation_initialised : (raiseContractViolation st s).initialised = s.initialised := rfl
@[simp] theorem raiseContractViolation_sendDraws : (raiseContractViolation st s).sendDraws = s.sendDraws := rfl
@[simp] theorem raiseContractViolation_tieDraws : (raiseContractViolation st s).tieDraws = s.tieDraws := rfl

end raiseContractViolation

section raiseFault
variable (c : FaultCode) (s : State)

@[simp] theorem raiseFault_cfg : (raiseFault c s).cfg = s.cfg := rfl
@[simp] theorem raiseFault_telem : (raiseFault c s).telem = s.telem := rfl
@[simp] theorem raiseFault_mode : (raiseFault c s).mode = s.mode := rfl
@[simp] theorem raiseFault_setpoint : (raiseFault c s).setpoint = s.setpoint := rfl
@[simp] theorem raiseFault_faultAckCount : (raiseFault c s).faultAckCount = s.faultAckCount := rfl
@[simp] theorem raiseFault_cvLatched : (raiseFault c s).cvLatched = s.cvLatched := rfl
@[simp] theorem raiseFault_cvFirstCode : (raiseFault c s).cvFirstCode = s.cvFirstCode := rfl
@[simp] theorem raiseFault_faulted : (raiseFault c s).faulted = true := rfl
@[simp] theorem raiseFault_faultCode : (raiseFault c s).faultCode = faultCodeNumber c := rfl
@[simp] theorem raiseFault_snap : (raiseFault c s).snap = s.snap := rfl
@[simp] theorem raiseFault_healthStart : (raiseFault c s).healthStart = s.healthStart := rfl
@[simp] theorem raiseFault_rpdoStart : (raiseFault c s).rpdoStart = s.rpdoStart := rfl
@[simp] theorem raiseFault_trace : (raiseFault c s).trace = s.trace := rfl
@[simp] theorem raiseFault_response : (raiseFault c s).response = ⟨.fault, .none⟩ := rfl
@[simp] theorem raiseFault_port : (raiseFault c s).port = s.port := rfl
@[simp] theorem raiseFault_initialised : (raiseFault c s).initialised = s.initialised := rfl
@[simp] theorem raiseFault_sendDraws : (raiseFault c s).sendDraws = s.sendDraws := rfl
@[simp] theorem raiseFault_tieDraws : (raiseFault c s).tieDraws = s.tieDraws := rfl

end raiseFault

section transmit
variable (c : CobId) (p : Payload) (s : State)

@[simp] theorem transmit_cfg : (transmit c p s).cfg = s.cfg := rfl
@[simp] theorem transmit_telem : (transmit c p s).telem = s.telem := rfl
@[simp] theorem transmit_mode : (transmit c p s).mode = s.mode := rfl
@[simp] theorem transmit_setpoint : (transmit c p s).setpoint = s.setpoint := rfl
@[simp] theorem transmit_faultAckCount : (transmit c p s).faultAckCount = s.faultAckCount := rfl
@[simp] theorem transmit_cvLatched : (transmit c p s).cvLatched = s.cvLatched := rfl
@[simp] theorem transmit_cvFirstCode : (transmit c p s).cvFirstCode = s.cvFirstCode := rfl
@[simp] theorem transmit_faulted : (transmit c p s).faulted = s.faulted := rfl
@[simp] theorem transmit_faultCode : (transmit c p s).faultCode = s.faultCode := rfl
@[simp] theorem transmit_snap : (transmit c p s).snap = s.snap := rfl
@[simp] theorem transmit_healthStart : (transmit c p s).healthStart = s.healthStart := rfl
@[simp] theorem transmit_rpdoStart : (transmit c p s).rpdoStart = s.rpdoStart := rfl
@[simp] theorem transmit_trace : (transmit c p s).trace = s.trace ++ [⟨c, p⟩] := rfl
@[simp] theorem transmit_response : (transmit c p s).response = s.response := rfl
@[simp] theorem transmit_port : (transmit c p s).port = s.port := rfl
@[simp] theorem transmit_initialised : (transmit c p s).initialised = s.initialised := rfl
@[simp] theorem transmit_sendDraws : (transmit c p s).sendDraws = s.sendDraws + 1 := rfl
@[simp] theorem transmit_tieDraws : (transmit c p s).tieDraws = s.tieDraws := rfl

end transmit

section countCheck
variable (s : State)

@[simp] theorem countCheck_cfg : (countCheck s).cfg = s.cfg := rfl
@[simp] theorem countCheck_telem : (countCheck s).telem = s.telem := rfl
@[simp] theorem countCheck_mode : (countCheck s).mode = s.mode := rfl
@[simp] theorem countCheck_setpoint : (countCheck s).setpoint = s.setpoint := rfl
@[simp] theorem countCheck_faultAckCount : (countCheck s).faultAckCount = s.faultAckCount := rfl
@[simp] theorem countCheck_cvLatched : (countCheck s).cvLatched = s.cvLatched := rfl
@[simp] theorem countCheck_cvFirstCode : (countCheck s).cvFirstCode = s.cvFirstCode := rfl
@[simp] theorem countCheck_faulted : (countCheck s).faulted = s.faulted := rfl
@[simp] theorem countCheck_faultCode : (countCheck s).faultCode = s.faultCode := rfl
@[simp] theorem countCheck_snap : (countCheck s).snap = s.snap := rfl
@[simp] theorem countCheck_healthStart : (countCheck s).healthStart = s.healthStart := rfl
@[simp] theorem countCheck_rpdoStart : (countCheck s).rpdoStart = s.rpdoStart := rfl
@[simp] theorem countCheck_trace : (countCheck s).trace = s.trace := rfl
@[simp] theorem countCheck_response : (countCheck s).response = s.response := rfl
@[simp] theorem countCheck_port : (countCheck s).port = s.port := rfl
@[simp] theorem countCheck_initialised : (countCheck s).initialised = s.initialised := rfl
@[simp] theorem countCheck_sendDraws : (countCheck s).sendDraws = s.sendDraws := rfl
@[simp] theorem countCheck_tieDraws : (countCheck s).tieDraws = s.tieDraws + 1 := rfl

end countCheck

section restartHealth
variable (t : U64) (s : State)

@[simp] theorem restartHealth_cfg : (restartHealth t s).cfg = s.cfg := rfl
@[simp] theorem restartHealth_telem : (restartHealth t s).telem = s.telem := rfl
@[simp] theorem restartHealth_mode : (restartHealth t s).mode = s.mode := rfl
@[simp] theorem restartHealth_setpoint : (restartHealth t s).setpoint = s.setpoint := rfl
@[simp] theorem restartHealth_faultAckCount : (restartHealth t s).faultAckCount = s.faultAckCount := rfl
@[simp] theorem restartHealth_cvLatched : (restartHealth t s).cvLatched = s.cvLatched := rfl
@[simp] theorem restartHealth_cvFirstCode : (restartHealth t s).cvFirstCode = s.cvFirstCode := rfl
@[simp] theorem restartHealth_faulted : (restartHealth t s).faulted = s.faulted := rfl
@[simp] theorem restartHealth_faultCode : (restartHealth t s).faultCode = s.faultCode := rfl
@[simp] theorem restartHealth_snap : (restartHealth t s).snap = s.snap := rfl
@[simp] theorem restartHealth_healthStart : (restartHealth t s).healthStart = t := rfl
@[simp] theorem restartHealth_rpdoStart : (restartHealth t s).rpdoStart = s.rpdoStart := rfl
@[simp] theorem restartHealth_trace : (restartHealth t s).trace = s.trace := rfl
@[simp] theorem restartHealth_response : (restartHealth t s).response = s.response := rfl
@[simp] theorem restartHealth_port : (restartHealth t s).port = s.port := rfl
@[simp] theorem restartHealth_initialised : (restartHealth t s).initialised = s.initialised := rfl
@[simp] theorem restartHealth_sendDraws : (restartHealth t s).sendDraws = s.sendDraws := rfl
@[simp] theorem restartHealth_tieDraws : (restartHealth t s).tieDraws = s.tieDraws := rfl

end restartHealth

section restartRpdo
variable (t : U64) (s : State)

@[simp] theorem restartRpdo_cfg : (restartRpdo t s).cfg = s.cfg := rfl
@[simp] theorem restartRpdo_telem : (restartRpdo t s).telem = s.telem := rfl
@[simp] theorem restartRpdo_mode : (restartRpdo t s).mode = s.mode := rfl
@[simp] theorem restartRpdo_setpoint : (restartRpdo t s).setpoint = s.setpoint := rfl
@[simp] theorem restartRpdo_faultAckCount : (restartRpdo t s).faultAckCount = s.faultAckCount := rfl
@[simp] theorem restartRpdo_cvLatched : (restartRpdo t s).cvLatched = s.cvLatched := rfl
@[simp] theorem restartRpdo_cvFirstCode : (restartRpdo t s).cvFirstCode = s.cvFirstCode := rfl
@[simp] theorem restartRpdo_faulted : (restartRpdo t s).faulted = s.faulted := rfl
@[simp] theorem restartRpdo_faultCode : (restartRpdo t s).faultCode = s.faultCode := rfl
@[simp] theorem restartRpdo_snap : (restartRpdo t s).snap = s.snap := rfl
@[simp] theorem restartRpdo_healthStart : (restartRpdo t s).healthStart = s.healthStart := rfl
@[simp] theorem restartRpdo_rpdoStart : (restartRpdo t s).rpdoStart = t := rfl
@[simp] theorem restartRpdo_trace : (restartRpdo t s).trace = s.trace := rfl
@[simp] theorem restartRpdo_response : (restartRpdo t s).response = s.response := rfl
@[simp] theorem restartRpdo_port : (restartRpdo t s).port = s.port := rfl
@[simp] theorem restartRpdo_initialised : (restartRpdo t s).initialised = s.initialised := rfl
@[simp] theorem restartRpdo_sendDraws : (restartRpdo t s).sendDraws = s.sendDraws := rfl
@[simp] theorem restartRpdo_tieDraws : (restartRpdo t s).tieDraws = s.tieDraws := rfl

end restartRpdo

section telemetryLoss
variable (s : State)

@[simp] theorem telemetryLoss_cfg : (telemetryLoss s).cfg = s.cfg := rfl
@[simp] theorem telemetryLoss_telem : (telemetryLoss s).telem = .noTelemetry := rfl
@[simp] theorem telemetryLoss_mode : (telemetryLoss s).mode = .undefined := rfl
@[simp] theorem telemetryLoss_setpoint : (telemetryLoss s).setpoint = s.setpoint := rfl
@[simp] theorem telemetryLoss_faultAckCount : (telemetryLoss s).faultAckCount = 0 := rfl
@[simp] theorem telemetryLoss_cvLatched : (telemetryLoss s).cvLatched = s.cvLatched := rfl
@[simp] theorem telemetryLoss_cvFirstCode : (telemetryLoss s).cvFirstCode = s.cvFirstCode := rfl
@[simp] theorem telemetryLoss_faulted : (telemetryLoss s).faulted = s.faulted := rfl
@[simp] theorem telemetryLoss_faultCode : (telemetryLoss s).faultCode = s.faultCode := rfl
@[simp] theorem telemetryLoss_snap : (telemetryLoss s).snap = s.snap := rfl
@[simp] theorem telemetryLoss_healthStart : (telemetryLoss s).healthStart = s.healthStart := rfl
@[simp] theorem telemetryLoss_rpdoStart : (telemetryLoss s).rpdoStart = s.rpdoStart := rfl
@[simp] theorem telemetryLoss_trace : (telemetryLoss s).trace = s.trace := rfl
@[simp] theorem telemetryLoss_response : (telemetryLoss s).response = s.response := rfl
@[simp] theorem telemetryLoss_port : (telemetryLoss s).port = s.port := rfl
@[simp] theorem telemetryLoss_initialised : (telemetryLoss s).initialised = s.initialised := rfl
@[simp] theorem telemetryLoss_sendDraws : (telemetryLoss s).sendDraws = s.sendDraws := rfl
@[simp] theorem telemetryLoss_tieDraws : (telemetryLoss s).tieDraws = s.tieDraws := rfl

end telemetryLoss

end Sys2Proof.Machine
end

