-- ==== Sys2Proof/Laws/Ops.lean ====
section
/-! SUPPORT. One lemma for each shared operation of the machine, saying everything it can do. -/

namespace Sys2Proof.Machine

open Host (Outcome)

/-! ## Ending an operation -/

theorem guarded_of_ready {body : State → State} {s : State} (h : Ready s) :
    guarded body s = .next (body s) := by
  simp [guarded, h.1, h.2]

theorem guarded_of_faulted {body : State → State} {s : State} (hi : s.initialised = true)
    (hf : s.faulted = true) : guarded body s = .next { s with response := ⟨.fault, .none⟩ } := by
  simp [guarded, hi, hf, respond]

theorem guarded_before_reset {body : State → State} {s : State} (h : s.initialised = false) :
    guarded body s = .refused .beforeFirstReset := by
  simp [guarded, h]

/-- Everything a guarded operation can answer with a next state. -/
theorem guarded_next_cases {body : State → State} {s t : State} (h : guarded body s = .next t) :
    (Ready s ∧ t = body s) ∨
      (s.initialised = true ∧ s.faulted = true ∧ t = { s with response := ⟨.fault, .none⟩ }) := by
  unfold guarded at h
  split at h
  · cases hf : s.faulted with
    | true => exact .inr ⟨‹_›, rfl, by simpa [hf, respond] using h.symm⟩
    | false => exact .inl ⟨⟨‹_›, hf⟩, by simpa [hf] using h.symm⟩
  · cases h

theorem guarded_never_faults {body : State → State} {s : State} {r : Fault} :
    guarded body s ≠ .fault r := nomatch r

theorem raiseContractViolation_eq_violated (st : Status) (s : State) :
    raiseContractViolation st s = s.violated st (statusCode st) := rfl

theorem violationCode_eq_statusCode {st : Status} {c : Byte} (h : violationCode st = some c) :
    statusCode st = c := by
  cases st <;> simp_all [violationCode, statusCode]

/-! ## Timers -/

theorem expired_iff (start : U64) (interval : U32) (nowUs : U64) (tie : Bool) :
    expired start interval nowUs tie = true ↔ TimerExpired start interval nowUs tie := by
  have hel : (if start.toNat ≤ nowUs.toNat then nowUs.toNat - start.toNat else 0)
      = nowUs.toNat - start.toNat := by
    split <;> omega
  unfold expired TimerExpired
  dsimp only
  rw [hel]
  by_cases hlt : interval.toNat < nowUs.toNat - start.toNat
  · simp [hlt]
  · by_cases heq : nowUs.toNat - start.toNat = interval.toNat <;> simp [hlt, heq]

theorem healthExpired_iff (nowUs : U64) (s : State) :
    healthExpired nowUs s = true ↔ HealthTimedOut s nowUs :=
  expired_iff _ _ _ _

theorem rpdoExpired_iff (nowUs : U64) (s : State) :
    rpdoExpired nowUs s = true ↔ RpdoDue s nowUs s.tieDraws :=
  expired_iff _ _ _ _

/-- R is restarted exactly when it had expired, and one check is counted either way. -/
theorem checkAndRestartRpdo_eq (nowUs : U64) (s : State) :
    checkAndRestartRpdo nowUs s =
      { s with
        tieDraws := s.tieDraws + 1
        rpdoStart := if rpdoExpired nowUs s then nowUs else s.rpdoStart } := by
  unfold checkAndRestartRpdo
  dsimp only
  split <;> simp_all [countCheck, restartRpdo]

section checkAndRestartRpdo
variable (nowUs : U64) (s : State)

@[simp] theorem checkAndRestartRpdo_cfg : (checkAndRestartRpdo nowUs s).cfg = s.cfg := by
  rw [checkAndRestartRpdo_eq]

@[simp] theorem checkAndRestartRpdo_telem : (checkAndRestartRpdo nowUs s).telem = s.telem := by
  rw [checkAndRestartRpdo_eq]

@[simp] theorem checkAndRestartRpdo_mode : (checkAndRestartRpdo nowUs s).mode = s.mode := by
  rw [checkAndRestartRpdo_eq]

@[simp] theorem checkAndRestartRpdo_setpoint : (checkAndRestartRpdo nowUs s).setpoint = s.setpoint := by
  rw [checkAndRestartRpdo_eq]

@[simp] theorem checkAndRestartRpdo_faultAckCount : (checkAndRestartRpdo nowUs s).faultAckCount = s.faultAckCount := by
  rw [checkAndRestartRpdo_eq]

@[simp] theorem checkAndRestartRpdo_cvLatched : (checkAndRestartRpdo nowUs s).cvLatched = s.cvLatched := by
  rw [checkAndRestartRpdo_eq]

@[simp] theorem checkAndRestartRpdo_cvFirstCode : (checkAndRestartRpdo nowUs s).cvFirstCode = s.cvFirstCode := by
  rw [checkAndRestartRpdo_eq]

@[simp] theorem checkAndRestartRpdo_faulted : (checkAndRestartRpdo nowUs s).faulted = s.faulted := by
  rw [checkAndRestartRpdo_eq]

@[simp] theorem checkAndRestartRpdo_faultCode : (checkAndRestartRpdo nowUs s).faultCode = s.faultCode := by
  rw [checkAndRestartRpdo_eq]

@[simp] theorem checkAndRestartRpdo_snap : (checkAndRestartRpdo nowUs s).snap = s.snap := by
  rw [checkAndRestartRpdo_eq]

@[simp] theorem checkAndRestartRpdo_healthStart : (checkAndRestartRpdo nowUs s).healthStart = s.healthStart := by
  rw [checkAndRestartRpdo_eq]

@[simp] theorem checkAndRestartRpdo_trace : (checkAndRestartRpdo nowUs s).trace = s.trace := by
  rw [checkAndRestartRpdo_eq]

@[simp] theorem checkAndRestartRpdo_response : (checkAndRestartRpdo nowUs s).response = s.response := by
  rw [checkAndRestartRpdo_eq]

@[simp] theorem checkAndRestartRpdo_port : (checkAndRestartRpdo nowUs s).port = s.port := by
  rw [checkAndRestartRpdo_eq]

@[simp] theorem checkAndRestartRpdo_initialised : (checkAndRestartRpdo nowUs s).initialised = s.initialised := by
  rw [checkAndRestartRpdo_eq]

@[simp] theorem checkAndRestartRpdo_sendDraws : (checkAndRestartRpdo nowUs s).sendDraws = s.sendDraws := by
  rw [checkAndRestartRpdo_eq]

@[simp] theorem sendAnswer_checkAndRestartRpdo :
    sendAnswer (checkAndRestartRpdo nowUs s) = sendAnswer s := by
  rw [checkAndRestartRpdo_eq]
  rfl

end checkAndRestartRpdo

/-! ## Operand checks -/

theorem widthOk_iff (w : Byte) : widthOk w = true ↔ w = 1 ∨ w = 2 ∨ w = 4 := decide_eq_true_iff

theorem reservedFlagSet_iff : ∀ flags : Byte, reservedFlagSet flags = true ↔ 2 ≤ flags.toNat := by
  decide

theorem regValue_none_iff (reg : Byte) (s : State) :
    regValue reg s = none ↔ 0x0A < reg.toNat ∧ ¬ (0x10 ≤ reg.toNat ∧ reg.toNat ≤ 0x15) := by
  unfold regValue
  split
  all_goals simp_all
  omega

/-- Only register 0x03 holds the RPDO interval (R23, R171). -/
theorem writeConfigReg_rpdoIntervalUs {reg : Byte} (h : reg ≠ 0x03) (value : U32) (c : CfgRegs) :
    (writeConfigReg reg value c).rpdoIntervalUs = c.rpdoIntervalUs := by
  unfold writeConfigReg
  split
  case h_4 h' => exact absurd (BitVec.eq_of_toNat_eq h') h
  all_goals rfl

/-- The getter contract's two answers while telemetry is present (R163). -/
theorem getter_cases {provided written : Bool} {value : Result} {s : State}
    (h : s.telem = .telemetryPresent) :
    getter provided written value s =
      if provided = true ∧ written = true then respond .ok value s
      else raiseContractViolation .cvFieldInvalid s := by
  unfold getter
  rw [h]
  cases provided <;> cases written <;> rfl

/-! ## Frame ingestion -/

theorem frameIsMine_iff (node : NodeId) (s : State) : frameIsMine node.toNat s = true ↔ AddressedTo s node := by
  simp [frameIsMine, BitVec.toNat_inj]

/-- The two parts of an identifier of a telemetry class (R50, R61), and its width. -/
theorem tpdoCobId_180 : ∀ node : NodeId, (tpdoCobId 0x180 node &&& nodeMask).toNat = node.toNat ∧
    (tpdoCobId 0x180 node &&& fcMask).toNat = 0x180 ∧ (tpdoCobId 0x180 node).toNat ≤ 0x7FF := by
  decide

theorem tpdoCobId_280 : ∀ node : NodeId, (tpdoCobId 0x280 node &&& nodeMask).toNat = node.toNat ∧
    (tpdoCobId 0x280 node &&& fcMask).toNat = 0x280 ∧ (tpdoCobId 0x280 node).toNat ≤ 0x7FF := by
  decide

theorem tpdoCobId_380 : ∀ node : NodeId, (tpdoCobId 0x380 node &&& nodeMask).toNat = node.toNat ∧
    (tpdoCobId 0x380 node &&& fcMask).toNat = 0x380 ∧ (tpdoCobId 0x380 node).toNat ≤ 0x7FF := by
  decide

theorem tpdoCobId_480 : ∀ node : NodeId, (tpdoCobId 0x480 node &&& nodeMask).toNat = node.toNat ∧
    (tpdoCobId 0x480 node &&& fcMask).toNat = 0x480 ∧ (tpdoCobId 0x480 node).toNat ≤ 0x7FF := by
  decide

/-- What is left of ingestion once a legal frame's two identifier parts are known. -/
theorem ingest_of_parts {c : U16} {node : NodeId} {fc : Nat} (hn : (c &&& nodeMask).toNat = node.toNat)
    (hf : (c &&& fcMask).toNat = fc) (hc : c.toNat ≤ 0x7FF) {l : Byte} (hl : l.toNat ≤ 8) (p : Payload)
    (nowUs : U64) (s : State) :
    ingest c l p nowUs s =
      if AddressedTo s node then
        if fc = 0x180 then primary (decide (l = 8)) p nowUs s
        else if fc = 0x280 then secondary (decide (l = 8)) p s
        else if fc = 0x380 then tertiary (decide (l = 8)) p s
        else if fc = 0x480 then respondRx true none s
        else respondRx false none s
      else respondRx false none s := by
  unfold ingest
  rw [if_neg (by omega), if_neg (by omega), hn]
  by_cases ha : AddressedTo s node
  · rw [if_pos ha, if_neg (by simp [(frameIsMine_iff node s).2 ha])]
    dsimp only
    split
    · next h => simp [← hf, h]
    · next h => simp [← hf, h]
    · next h => simp [← hf, h]
    · next h => simp [← hf, h]
    · next h1 h2 h3 h4 => rw [if_neg (hf ▸ h1), if_neg (hf ▸ h2), if_neg (hf ▸ h3), if_neg (hf ▸ h4)]
  · rw [if_neg ha, if_pos (by simpa using mt (frameIsMine_iff node s).1 ha)]

theorem tpdoCobId_580 : ∀ node : NodeId, (tpdoCobId sdoRespBase node &&& nodeMask).toNat = node.toNat ∧
    (tpdoCobId sdoRespBase node &&& fcMask).toNat = sdoRespBase ∧ (tpdoCobId sdoRespBase node).toNat ≤ 0x7FF := by
  decide

/-- An SDO response is not processed, whichever node it comes from (R128). -/
theorem ingest_sdoResponse (node : NodeId) {l : Byte} (hl : l.toNat ≤ 8) (p : Payload) (nowUs : U64)
    (s : State) : ingest (tpdoCobId sdoRespBase node) l p nowUs s = respondRx false none s := by
  obtain ⟨hn, hf, hc⟩ := tpdoCobId_580 node
  rw [ingest_of_parts hn hf hc hl]
  simp [sdoRespBase]

/-- The fault field of a status word is its high byte without bit 7 (R37). -/
theorem hasFaultBits_append (b1 b0 : Byte) : hasFaultBits (b1 ++ b0) = decide (b1.toNat % 128 ≠ 0) := by
  have hmask : (b1 ++ b0 : U16) &&& 0x7F00#16 = (b1 &&& 0x7F#8) ++ 0#8 := by
    apply BitVec.eq_of_getLsbD_eq
    intro i hi
    simp only [BitVec.getLsbD_and, BitVec.getLsbD_append]
    split <;> interval_cases i <;> first | omega | simp
  have hmod : ∀ b : Byte, decide ((b &&& 0x7F#8) ++ 0#8 ≠ 0#16) = decide (b.toNat % 128 ≠ 0) := by decide
  rw [← hmod b1, ← hmask]
  rfl

/-! ## Payloads -/

theorem byteAt_payloadOf (f : Nat → Byte) {i : Nat} (h : i < 8) : byteAt (payloadOf f) i = f i := by
  match i, h with
  | 0, _ | 1, _ | 2, _ | 3, _ | 4, _ | 5, _ | 6, _ | 7, _ => rfl

/-- Two payloads with the same eight bytes are equal. -/
theorem payload_ext {p q : Payload} (h : ∀ i < 8, byteAt p i = byteAt q i) : p = q := by
  have h0 := h 0 (by decide)
  have h1 := h 1 (by decide)
  have h2 := h 2 (by decide)
  have h3 := h 3 (by decide)
  have h4 := h 4 (by decide)
  have h5 := h 5 (by decide)
  have h6 := h 6 (by decide)
  have h7 := h 7 (by decide)
  cases p
  cases q
  simp_all [byteAt]

/-- MemWrite changes the bytes it writes and no other (R12). -/
theorem byteAt_memWrite (p : Payload) (off n : Nat) (v : U32) {i : Nat} (h : i < 8) :
    byteAt (memWrite p off n v) i =
      if off ≤ i ∧ i < off + n then v.extractLsb' (8 * (i - off)) 8 else byteAt p i :=
  byteAt_payloadOf _ h

/-- A 16-bit field is its high byte before its low byte (R53). -/
theorem memRead16_eq (p : Payload) (off : Nat) :
    memRead16 p off = byteAt p (off + 1) ++ byteAt p off := by
  apply BitVec.eq_of_toNat_eq
  have h0 := (byteAt p off).isLt
  have h1 := (byteAt p (off + 1)).isLt
  simp only [memRead16, memRead, BitVec.toNat_ofNat, BitVec.toNat_append]
  rw [Nat.shiftLeft_eq, Nat.mul_comm _ (2 ^ 8), ← Nat.two_pow_add_eq_or_of_lt h0]
  simp only [Nat.add_zero]
  omega

/-- A narrow value's byte is the same byte of the value widened to 32 bits (R78). -/
theorem extract_setWidth {n : Nat} (v : BitVec n) (start : Nat) (h : start + 8 ≤ 32) :
    (v.setWidth 32).extractLsb' start 8 = v.extractLsb' start 8 := by
  apply BitVec.eq_of_getLsbD_eq
  intro i hi
  have hlt : start + i < 32 := by omega
  simp [hi, hlt]

/-- Every byte of an SDO frame (R63). -/
theorem buildSdo_eq (cmd : Byte) (index : U16) (subindex : Byte) (n : Nat) (data : U32) :
    buildSdo cmd index subindex n data =
      ⟨cmd, lo index, hi index, subindex, if 0 < n then data.extractLsb' 0 8 else 0,
        if 1 < n then data.extractLsb' 8 8 else 0, if 2 < n then data.extractLsb' 16 8 else 0,
        if 3 < n then data.extractLsb' 24 8 else 0⟩ := by
  have h1 : 5 < 4 + n ↔ 1 < n := by omega
  have h2 : 6 < 4 + n ↔ 2 < n := by omega
  have h3 : 7 < 4 + n ↔ 3 < n := by omega
  simp [buildSdo, memWrite, setByte, zeroPayload, payloadOf, byteAt, extract_setWidth, h1, h2, h3]

/-- Every byte of an RPDO frame whose data does not overlap the command code (R66). -/
theorem buildRpdo_eq (code : U16) {offset : Nat} (w : Nat) (data : U32) (h : 2 ≤ offset) :
    buildRpdo code offset w data =
      payloadOf fun i =>
        if i = 0 then lo code else if i = 1 then hi code
        else if offset ≤ i ∧ i < offset + w then data.extractLsb' (8 * (i - offset)) 8 else 0 := by
  have h0 : ¬ offset = 0 := by omega
  have h1 : ¬ offset ≤ 1 := by omega
  simp [buildRpdo, memWrite, zeroPayload, payloadOf, byteAt, extract_setWidth, h0, h1]

/-- The Legacy command frame is the wire table's (R67, R150). -/
theorem legacyCmd_eq (base : Nat) (node : NodeId) (sp : U16) :
    legacyCmd base node sp = legacyWireFrame base node sp := by
  have hn : (node.setWidth 32).extractLsb' 0 8 = node.setWidth 8 := by
    apply BitVec.eq_of_getLsbD_eq
    intro i hi
    have hlt : i < 32 := by omega
    simp [hi, hlt]
  simp [legacyCmd, legacyWireFrame, buildRpdo_eq, payloadOf, cobAt, hn]

/-- The CANopenV2 command frames are the wire table's (R68). -/
theorem v2Cmd_position (node : NodeId) (sp : U16) :
    v2Cmd node v2PositionCode 2 sp = v2PositionWireFrame node sp := by
  simp [v2Cmd, v2PositionWireFrame, buildRpdo_eq, payloadOf, cobAt, extract_setWidth, v2PositionCode,
    rpdo1Base, lo, hi]

theorem v2Cmd_speed (node : NodeId) (sp : U16) :
    v2Cmd node v2SpeedCode 4 sp = v2SpeedWireFrame node sp := by
  simp [v2Cmd, v2SpeedWireFrame, buildRpdo_eq, payloadOf, cobAt, extract_setWidth, v2SpeedCode, rpdo1Base,
    lo, hi]

theorem v2Cmd_amps (node : NodeId) (sp : U16) :
    v2Cmd node v2AmpsCode 6 sp = v2AmpsWireFrame node sp := by
  simp [v2Cmd, v2AmpsWireFrame, buildRpdo_eq, payloadOf, cobAt, extract_setWidth, v2AmpsCode, rpdo1Base,
    lo, hi]

theorem faultAckFrame_eq (node : NodeId) : faultAckFrame node = faultAckWireFrame node := by
  simp [faultAckFrame, faultAckWireFrame, buildRpdo_eq, payloadOf, cobAt, extract_setWidth, v2FaultAckCode,
    rpdo1Base, lo, hi]

/-! ## Command encoder -/

/-- The encoder follows the wire tables: `commandFrame`, and the unreachable arm of R153. -/
theorem encodeCommand_eq (s : State) :
    encodeCommand s =
      if LegacyAmps s then .unreachable .legacyAmps
      else match commandFrame s.cfg s.mode s.setpoint with
        | none => .noFrame
        | some e => .frame e := by
  unfold encodeCommand commandFrame LegacyAmps
  cases s.mode <;> cases s.cfg.protocol <;>
    simp [legacyCmd_eq, v2Cmd_position, v2Cmd_speed, v2Cmd_amps, rpdoLegacySpeedBase, rpdo1Base]

/-- Everything the encoder can give: a frame of the wire table, no frame, or the unreachable arm. -/
theorem emitCommand_cases (finish : Option Bool → State → State) (s : State) :
    (s.mode = .undefined ∧ emitCommand finish s = finish none s) ∨
    (LegacyAmps s ∧ emitCommand finish s = raiseFault .legacyAmps s) ∨
    (s.mode ≠ .undefined ∧ ¬ LegacyAmps s ∧ ∃ e, encodeCommand s = .frame e ∧
      emitCommand finish s = finish (some (sendAnswer s)) (transmit e.cobId e.payload s)) := by
  unfold emitCommand encodeCommand LegacyAmps
  cases hm : s.mode <;> cases hp : s.cfg.protocol <;> simp

/-! ## Tick -/

theorem tickTimeout_cases (nowUs : U64) (loss : Loss) (s : State) :
    (s.telem = .noTelemetry ∧ tickTimeout nowUs loss s = (s, loss)) ∨
    (s.telem = .telemetryPresent ∧ HealthTimedOut s nowUs ∧
      tickTimeout nowUs loss s = (telemetryLoss (countCheck s), .timeout)) ∨
    (s.telem = .telemetryPresent ∧ ¬ HealthTimedOut s nowUs ∧
      tickTimeout nowUs loss s = (countCheck s, loss)) := by
  unfold tickTimeout
  rw [← healthExpired_iff]
  cases s.telem <;> cases healthExpired nowUs s <;> simp

end Sys2Proof.Machine
end

