-- ==== Sys2Proof/Laws/Exec.lean ====
section
/-! SUPPORT. Everything an instruction can do, said once: `exec_next_cases`, and one lemma for each of the larger
operations it names (tick, halt, frame ingestion, configuration writes). -/

namespace Sys2Proof.Machine

open Host (Outcome)

/-- The instructions that ingest a frame, with the operands `ingest` is given. -/
inductive Ingests : Instr → U16 → Byte → Payload → U64 → Prop where
  | rxFrame (c l p ts now) : Ingests (.rxFrame c l p ts now) c l p now
  | primary (n l p ts now) : Ingests (.tpdoPrimary n l p ts now) (tpdoCobId tpdo1Base n) l p now
  | secondary (n l p ts now) : Ingests (.tpdoSecondary n l p ts now) (tpdoCobId tpdo2Base n) l p now
  | tertiary (n l p ts now) : Ingests (.tpdoTertiary n l p ts now) (tpdoCobId tpdo3Base n) l p now
  | quaternary (n l p ts now) : Ingests (.tpdoQuaternary n l p ts now) (tpdoCobId tpdo4Base n) l p now

/-- What a ready block does for an instruction other than RESET. -/
inductive Effect (s : State) : Instr → State → Prop where
  | answer (i) (r : Result) : Effect s i (respond .ok r s)
  | violation (i) (st : Status) (c : Byte) (h : violationCode st = some c) :
      Effect s i (raiseContractViolation st s)
  | send (i) (cob : CobId) (p : Payload) : Effect s i (sendAndRespond cob p s)
  | setPosition (sp) : Effect s (.setPosition sp) (acceptSetpoint .position sp s)
  | setSpeed (sp) : Effect s (.setSpeed sp) (acceptSetpoint .speed sp s)
  | setAmps (sp) (h : s.cfg.protocol = .canopenV2) : Effect s (.setAmps sp) (acceptSetpoint .amps sp s)
  | setUndefined : Effect s .setUndefined (respond .ok .none { s with mode := .undefined })
  | execute (flags now) : Effect s (.execute flags now) (tick (connectedFlag flags) now s)
  | halt (flags) : Effect s (.halt flags) (haltBody (connectedFlag flags) s)
  | ingest (i c l p now) (h : Ingests i c l p now) : Effect s i (ingest c l p now s)
  | writeConfig (reg value) (h1 : configRegAssigned reg = true) (h2 : configValueLegal reg value = true)
      (h3 : ¬ (reg = 0x01 ∧ value = 0 ∧ s.mode = .amps)) :
      Effect s (.writeConfig reg value) (writeConfigBody reg value s)

/-- Every instruction but RESET is guarded, and its body does one of the effects. -/
theorem exec_guarded (i : Instr) (h : ¬ IsReset i) :
    ∃ body : State → State, (∀ s, exec i s = guarded body s) ∧ ∀ s, Ready s → Effect s i (body s) := by
  cases i with
  | reset => exact absurd trivial h
  | sdoWrite node index subindex w data =>
    refine ⟨_, fun _ => rfl, fun s _ => ?_⟩
    unfold sdoChecked
    split
    · exact .violation _ _ _ rfl
    · split
      · exact .violation _ _ _ rfl
      · exact .send _ _ _
  | sdoReadReq node index subindex w =>
    refine ⟨_, fun _ => rfl, fun s _ => ?_⟩
    unfold sdoChecked
    split
    · exact .violation _ _ _ rfl
    · split
      · exact .violation _ _ _ rfl
      · exact .send _ _ _
  | rpdoSend node base code offset w data =>
    refine ⟨_, fun _ => rfl, fun s _ => ?_⟩
    unfold rpdoChecked
    split
    · exact .violation _ _ _ rfl
    · split
      · exact .violation _ _ _ rfl
      · split
        · exact .violation _ _ _ rfl
        · split
          · exact .violation _ _ _ rfl
          · exact .send _ _ _
  | decodeCobId cobId =>
    refine ⟨_, fun _ => rfl, fun s _ => ?_⟩
    split
    · exact .violation _ _ _ rfl
    · exact .answer _ _
  | decodeSdoIndex => exact ⟨_, fun _ => rfl, fun s _ => .answer _ _⟩
  | decodeSdoSubindex => exact ⟨_, fun _ => rfl, fun s _ => .answer _ _⟩
  | bfHi => exact ⟨_, fun _ => rfl, fun s _ => .answer _ _⟩
  | bfLo => exact ⟨_, fun _ => rfl, fun s _ => .answer _ _⟩
  | bfSetHi => exact ⟨_, fun _ => rfl, fun s _ => .answer _ _⟩
  | bfSetLo => exact ⟨_, fun _ => rfl, fun s _ => .answer _ _⟩
  | execute flags now =>
    refine ⟨_, fun _ => rfl, fun s _ => ?_⟩
    split
    · exact .violation _ _ _ rfl
    · exact .execute _ _
  | rxFrame c l p ts now => exact ⟨_, fun _ => rfl, fun s _ => .ingest _ _ _ _ _ (.rxFrame c l p ts now)⟩
  | setPosition sp =>
    refine ⟨_, fun _ => rfl, fun s _ => ?_⟩
    split
    · exact .setPosition _
    · exact .violation _ _ _ rfl
  | setSpeed sp =>
    refine ⟨_, fun _ => rfl, fun s _ => ?_⟩
    split
    · exact .setSpeed _
    · exact .violation _ _ _ rfl
  | setAmps sp =>
    refine ⟨_, fun _ => rfl, fun s _ => ?_⟩
    split
    · exact .violation _ _ _ rfl
    · split
      · exact .setAmps _ ‹_›
      · exact .violation _ _ _ rfl
  | setUndefined => exact ⟨_, fun _ => rfl, fun s _ => .setUndefined⟩
  | halt flags =>
    refine ⟨_, fun _ => rfl, fun s _ => ?_⟩
    split
    · exact .violation _ _ _ rfl
    · exact .halt _
  | getPosition =>
    refine ⟨_, fun _ => rfl, fun s _ => ?_⟩
    dsimp only [getter]
    repeat' split
    all_goals first | exact .violation _ _ _ rfl | exact .answer _ _
  | getSpeed =>
    refine ⟨_, fun _ => rfl, fun s _ => ?_⟩
    dsimp only [getter]
    repeat' split
    all_goals first | exact .violation _ _ _ rfl | exact .answer _ _
  | getAmps =>
    refine ⟨_, fun _ => rfl, fun s _ => ?_⟩
    dsimp only [getter]
    repeat' split
    all_goals first | exact .violation _ _ _ rfl | exact .answer _ _
  | getStatusWord =>
    refine ⟨_, fun _ => rfl, fun s _ => ?_⟩
    dsimp only [getter]
    repeat' split
    all_goals first | exact .violation _ _ _ rfl | exact .answer _ _
  | getLegacyFaultStatus =>
    refine ⟨_, fun _ => rfl, fun s _ => ?_⟩
    dsimp only [getter]
    repeat' split
    all_goals first | exact .violation _ _ _ rfl | exact .answer _ _
  | readReg reg =>
    refine ⟨_, fun _ => rfl, fun s _ => ?_⟩
    split
    · exact .answer _ _
    · exact .violation _ _ _ rfl
  | writeConfig reg value =>
    refine ⟨_, fun _ => rfl, fun s _ => ?_⟩
    by_cases h1 : configRegAssigned reg = true
    · by_cases h2 : configValueLegal reg value = true
      · by_cases h3 : reg = 0x01 ∧ value = 0 ∧ s.mode = .amps
        · rw [writeConfigBody, if_neg (by simp [h1]), if_neg (by simp [h2]), if_pos h3]
          exact .violation _ _ _ rfl
        · exact .writeConfig _ _ h1 h2 h3
      · rw [writeConfigBody, if_neg (by simp [h1]), if_pos (by simpa using h2)]
        exact .violation _ _ _ rfl
    · rw [writeConfigBody, if_pos (by simpa using h1)]
      exact .violation _ _ _ rfl
  | sdoDownload1B => exact ⟨_, fun _ => rfl, fun s _ => .send _ _ _⟩
  | sdoDownload2B => exact ⟨_, fun _ => rfl, fun s _ => .send _ _ _⟩
  | sdoDownload4B => exact ⟨_, fun _ => rfl, fun s _ => .send _ _ _⟩
  | sdoUploadReq1B => exact ⟨_, fun _ => rfl, fun s _ => .send _ _ _⟩
  | sdoUploadReq2B => exact ⟨_, fun _ => rfl, fun s _ => .send _ _ _⟩
  | sdoUploadReq4B => exact ⟨_, fun _ => rfl, fun s _ => .send _ _ _⟩
  | v2CmdPosition => exact ⟨_, fun _ => rfl, fun s _ => .send _ _ _⟩
  | v2CmdSpeed => exact ⟨_, fun _ => rfl, fun s _ => .send _ _ _⟩
  | v2CmdAmps => exact ⟨_, fun _ => rfl, fun s _ => .send _ _ _⟩
  | v2FaultAck => exact ⟨_, fun _ => rfl, fun s _ => .send _ _ _⟩
  | legacyCmdPosition => exact ⟨_, fun _ => rfl, fun s _ => .send _ _ _⟩
  | legacyCmdSpeedEncoder => exact ⟨_, fun _ => rfl, fun s _ => .send _ _ _⟩
  | legacyCmdSpeedNoEncoder => exact ⟨_, fun _ => rfl, fun s _ => .send _ _ _⟩
  | tpdoPrimary n l p ts now => exact ⟨_, fun _ => rfl, fun s _ => .ingest _ _ _ _ _ (.primary n l p ts now)⟩
  | tpdoSecondary n l p ts now =>
    exact ⟨_, fun _ => rfl, fun s _ => .ingest _ _ _ _ _ (.secondary n l p ts now)⟩
  | tpdoTertiary n l p ts now =>
    exact ⟨_, fun _ => rfl, fun s _ => .ingest _ _ _ _ _ (.tertiary n l p ts now)⟩
  | tpdoQuaternary n l p ts now =>
    exact ⟨_, fun _ => rfl, fun s _ => .ingest _ _ _ _ _ (.quaternary n l p ts now)⟩

/-- Everything an instruction that answers a next state can have done. -/
theorem exec_next_cases {i : Instr} {s t : State} (h : exec i s = .next t) :
    IsReset i ∨ (Ready s ∧ Effect s i t) ∨
      (s.initialised = true ∧ s.faulted = true ∧ t = { s with response := ⟨.fault, .none⟩ }) := by
  by_cases hr : IsReset i
  · exact .inl hr
  · obtain ⟨body, hexec, heff⟩ := exec_guarded i hr
    rw [hexec] at h
    obtain ⟨hready, rfl⟩ | hf := guarded_next_cases h
    · exact .inr (.inl ⟨hready, heff s hready⟩)
    · exact .inr (.inr hf)

/-- What an accepted or refused RESET leaves. -/
theorem exec_reset_cases {i : Instr} {s t : State} (hr : IsReset i) (h : exec i s = .next t) :
    t = raiseContractViolation .cvConfigValue s ∨ ∃ c now, t = resetState c now s := by
  cases i <;> first | exact absurd hr id | skip
  simp only [exec, execReset, Outcome.next.injEq] at h
  split at h
  · exact .inl h.symm
  · exact .inr ⟨_, _, h.symm⟩

/-! ## The larger operations -/

/-- What an emission can do: nothing, one frame, or the unreachable arm. -/
inductive Emits (finish : Option Bool → State → State) (s : State) : State → Prop where
  | none (h : s.mode = .undefined) : Emits finish s (finish none s)
  | frame (e : TxEvent) (h : ¬ LegacyAmps s) :
      Emits finish s (finish (some (sendAnswer s)) (transmit e.cobId e.payload s))
  | unreachable (h : LegacyAmps s) : Emits finish s (raiseFault .legacyAmps s)

theorem emitCommand_emits (finish : Option Bool → State → State) (s : State) :
    Emits finish s (emitCommand finish s) := by
  obtain ⟨hm, h⟩ | ⟨hl, h⟩ | ⟨-, hl, e, -, h⟩ := emitCommand_cases finish s
  · exact h ▸ .none hm
  · exact h ▸ .unreachable hl
  · exact h ▸ .frame e hl

/-- The state a tick reaches before its third step: telemetry lost or kept, no other register moved. -/
inductive TickPrefix (s : State) : State → Prop where
  | kept (k : Nat) : TickPrefix s { s with tieDraws := s.tieDraws + k }
  | lost (k : Nat) : TickPrefix s { telemetryLoss s with tieDraws := s.tieDraws + k }

/-- Before its third step a tick only loses or keeps telemetry. -/
theorem tick_prefix (connected : Bool) (nowUs : U64) (s : State) :
    ∃ (s' : State) (loss : Loss), TickPrefix s s' ∧
      tick connected nowUs s = tickCommand connected nowUs loss s' := by
  unfold tick
  cases connected with
  | false => exact ⟨_, .disconnect, .lost 0, rfl⟩
  | true =>
    obtain ⟨-, h⟩ | ⟨-, -, h⟩ | ⟨-, -, h⟩ := tickTimeout_cases nowUs .none s
    · exact ⟨_, .none, .kept 0, by simp [tickDisconnect, h]⟩
    · exact ⟨_, .timeout, .lost 1, by simp [tickDisconnect, h]; rfl⟩
    · exact ⟨_, .none, .kept 1, by simp [tickDisconnect, h]; rfl⟩

/-- A third step that finds R not expired ends the tick at once. -/
theorem tickCommand_of_not_expired {connected : Bool} {nowUs : U64} {loss : Loss} {s : State}
    (h : rpdoExpired nowUs s = false) :
    tickCommand connected nowUs loss s = respond .ok (.tick loss false none) (countCheck s) := by
  simp [tickCommand, checkAndRestartRpdo, h]

/-- EXECUTE with legal flags is a tick. -/
theorem exec_execute_of_ready {flags : Byte} {s : State} (nowUs : U64) (hr : Ready s) (hf : flags.toNat < 2) :
    exec (.execute flags nowUs) s = .next (tick (connectedFlag flags) nowUs s) := by
  have hflags : ¬ reservedFlagSet flags = true := by rw [reservedFlagSet_iff]; omega
  simp only [exec, execExecute]
  rw [guarded_of_ready hr, if_neg hflags]

/-- A tick loses or keeps telemetry, checks R, and ends or emits one command. -/
theorem tick_cases (connected : Bool) (nowUs : U64) (s : State) :
    ∃ (s' : State) (loss : Loss), TickPrefix s s' ∧
      ((∃ r, tick connected nowUs s = respond .ok r (checkAndRestartRpdo nowUs s')) ∨
        (s'.telem = .telemetryPresent ∧
          Emits (fun sent => respond .ok (.tick loss true sent)) (checkAndRestartRpdo nowUs s')
            (tick connected nowUs s))) := by
  obtain ⟨s', loss, hp, h⟩ := tick_prefix connected nowUs s
  refine ⟨s', loss, hp, ?_⟩
  rw [h]
  unfold tickCommand
  dsimp only
  split
  · next hc => exact .inr ⟨by simp_all, emitCommand_emits _ _⟩
  · exact .inl ⟨_, rfl⟩

/-- A halt moves only the mode, to Undefined, or the setpoint. -/
inductive Neutralized (s : State) : State → Prop where
  | undefined : Neutralized s { s with mode := .undefined }
  | setpoint (sp : U16) (h : s.telem = .telemetryPresent) : Neutralized s { s with setpoint := sp }
  | same (h : s.mode = .undefined) : Neutralized s s

theorem neutralize_neutralized (s : State) : Neutralized s (neutralize s) := by
  unfold neutralize
  split
  · exact .undefined
  · split
    · exact .setpoint _ ‹_›
    · exact .undefined
  · exact .setpoint _ ‹_›
  · exact .setpoint _ ‹_›
  · exact .same ‹_›

/-- A halt neutralizes, then ends or emits one command. -/
theorem haltBody_cases (connected : Bool) (s : State) :
    (∃ r, haltBody connected s = respond .ok r (neutralize s)) ∨
      Emits (fun sent => respond .ok (.haltSent sent)) (neutralize s) (haltBody connected s) := by
  unfold haltBody
  split
  · exact .inr (emitCommand_emits _ _)
  · exact .inl ⟨_, rfl⟩

/-- A full primary frame for this controller, in `ingest`'s own terms. -/
structure IngestsPrimary (s : State) (c : U16) (l : Byte) : Prop where
  full : l = 8
  mine : frameIsMine (c &&& nodeMask).toNat s = true
  channel : (c &&& fcMask).toNat = 0x180
  narrow : c.toNat ≤ 0x7FF

theorem IngestsPrimary.configured {s : State} {c : U16} {l : Byte} (h : IngestsPrimary s c l) :
    s.cfg.nodeId ≠ 0 := by
  have := h.mine
  simp only [frameIsMine, decide_eq_true_eq] at this
  exact this.1

/-- What frame ingestion can do: one of three violations, an answer alone, proof of life after one of three parses (the
CANopenV2 one with or without a fault-ACK), or a Legacy field stored. -/
inductive Ingested (s : State) (c : U16) (l : Byte) (p : Payload) (nowUs : U64) : State → Prop where
  | tooLong (h : 8 < l.toNat) : Ingested s c l p nowUs (raiseContractViolation .cvLength s)
  | wide (h : l.toNat ≤ 8) (h' : 0x7FF < c.toNat) :
      Ingested s c l p nowUs (raiseContractViolation .cvCobRange s)
  | noEncoder (h : l.toNat ≤ 8) (h' : c.toNat ≤ 0x7FF) :
      Ingested s c l p nowUs (raiseContractViolation .cvLegacySecondaryNoEncoder s)
  | answer (h : l.toNat ≤ 8) (h' : c.toNat ≤ 0x7FF) (processed : Bool) (ack : Option Bool) :
      Ingested s c l p nowUs (respondRx processed ack s)
  | v2 (h : IngestsPrimary s c l) :
      Ingested s c l p nowUs (respondRx true (some false) (proofOfLife nowUs (parseV2Primary p s)))
  | v2Ack (h : IngestsPrimary s c l) :
      Ingested s c l p nowUs (respondRx true (some true) (proofOfLife nowUs (faultAck (parseV2Primary p s))))
  | legacy (h : IngestsPrimary s c l) :
      Ingested s c l p nowUs (respondRx true (some false) (proofOfLife nowUs (parseLegacyPrimary p s)))
  | secondary (h : l.toNat ≤ 8) (h' : c.toNat ≤ 0x7FF) :
      Ingested s c l p nowUs (respondRx true none (parseLegacySecondary p s))
  | tertiary (h : l.toNat ≤ 8) (h' : c.toNat ≤ 0x7FF) :
      Ingested s c l p nowUs (respondRx true none (parseLegacyTertiary p s))

theorem ingest_ingested (c : U16) (l : Byte) (p : Payload) (nowUs : U64) (s : State) :
    Ingested s c l p nowUs (ingest c l p nowUs s) := by
  unfold ingest
  split
  · exact .tooLong ‹_›
  next hlong =>
  have hl : l.toNat ≤ 8 := by omega
  split
  · exact .wide hl ‹_›
  next hwide =>
  have hc : c.toNat ≤ 0x7FF := by omega
  split
  · exact .answer hl hc _ _
  next hmine =>
  dsimp only
  split
  next hfc =>
    unfold primary
    split
    next hfull =>
      have h : IngestsPrimary s c l := ⟨by simpa using hfull, by simpa using hmine, hfc, hc⟩
      split
      · dsimp only
        split
        · exact .v2Ack h
        · exact .v2 h
      · exact .legacy h
    · exact .answer hl hc _ _
  · unfold secondary
    split
    · exact .answer hl hc _ _
    · split
      · exact .noEncoder hl hc
      · split
        · exact .secondary hl hc
        · exact .answer hl hc _ _
  · unfold tertiary
    split
    · exact .answer hl hc _ _
    · split
      · exact .tertiary hl hc
      · exact .answer hl hc _ _
  · exact .answer hl hc _ _
  · exact .answer hl hc _ _

/-- What an accepted configuration write does. -/
theorem writeConfigBody_cases {reg : Byte} {value : U32} {s : State} (h1 : configRegAssigned reg = true)
    (h2 : configValueLegal reg value = true) (h3 : ¬ (reg = 0x01 ∧ value = 0 ∧ s.mode = .amps)) :
    (reg = 0x00 ∧ value = 0 ∧ writeConfigBody reg value s =
      respond .ok .none (telemetryLoss { s with cfg := writeConfigReg reg value s.cfg })) ∨
    (¬ (reg = 0x00 ∧ value = 0) ∧ writeConfigBody reg value s =
      respond .ok .none { s with cfg := writeConfigReg reg value s.cfg }) := by
  rw [writeConfigBody, if_neg (by simp [h1]), if_neg (by simp [h2]), if_neg h3]
  by_cases h0 : reg = 0x00 ∧ value = 0
  · exact .inl ⟨h0.1, h0.2, if_pos h0⟩
  · exact .inr ⟨h0, if_neg h0⟩

/-! ## All of it together -/

/-- Every next state an instruction has, named by what happened: the list a proof over all instructions goes
through. -/
inductive NextState (s : State) (i : Instr) : State → Prop where
  | fault (hf : s.faulted = true) : NextState s i { s with response := ⟨.fault, .none⟩ }
  | answer (hr : Ready s) (r : Result) : NextState s i (respond .ok r s)
  | violation (hr : Ready s) (st : Status) (c : Byte) (h : violationCode st = some c) :
      NextState s i (raiseContractViolation st s)
  | send (hr : Ready s) (cob : CobId) (p : Payload) : NextState s i (sendAndRespond cob p s)
  | setpoint (hr : Ready s) (m : Mode) (sp : U16)
      (hi : i = .setPosition sp ∨ i = .setSpeed sp ∨ i = .setAmps sp)
      (h : m = .amps → s.cfg.protocol = .canopenV2) : NextState s i (acceptSetpoint m sp s)
  | setUndefined (hr : Ready s) : NextState s i (respond .ok .none { s with mode := .undefined })
  | tickEnd (hr : Ready s) (flags : Byte) (now : U64) (hi : i = .execute flags now) (s' : State) (r : Result)
      (h : TickPrefix s s') : NextState s i (respond .ok r (checkAndRestartRpdo now s'))
  | tickSend (hr : Ready s) (flags : Byte) (now : U64) (hi : i = .execute flags now) (k : Nat) (l : Loss)
      (cob : CobId) (p : Payload) (ht : s.telem = .telemetryPresent) (h : ¬ LegacyAmps s) :
      NextState s i (respond .ok (.tick l true (some (sendAnswer s)))
        (transmit cob p (checkAndRestartRpdo now { s with tieDraws := s.tieDraws + k })))
  | tickUnreachable (hr : Ready s) (flags : Byte) (now : U64) (hi : i = .execute flags now) (k : Nat)
      (ht : s.telem = .telemetryPresent) (h : LegacyAmps s) :
      NextState s i (raiseFault .legacyAmps (checkAndRestartRpdo now { s with tieDraws := s.tieDraws + k }))
  | haltEnd (hr : Ready s) (flags : Byte) (hi : i = .halt flags) (s' : State) (r : Result)
      (h : Neutralized s s') : NextState s i (respond .ok r s')
  | haltSend (hr : Ready s) (flags : Byte) (hi : i = .halt flags) (s' : State) (cob : CobId) (p : Payload)
      (r : Result) (h : Neutralized s s') (h' : ¬ LegacyAmps s') :
      NextState s i (respond .ok r (transmit cob p s'))
  | haltUnreachable (hr : Ready s) (flags : Byte) (hi : i = .halt flags) (s' : State) (h : Neutralized s s')
      (h' : LegacyAmps s') : NextState s i (raiseFault .legacyAmps s')
  | v2 (hr : Ready s) (c : U16) (l : Byte) (p : Payload) (now : U64) (hi : Ingests i c l p now)
      (h : IngestsPrimary s c l) :
      NextState s i (respondRx true (some false) (proofOfLife now (parseV2Primary p s)))
  | v2Ack (hr : Ready s) (c : U16) (l : Byte) (p : Payload) (now : U64) (hi : Ingests i c l p now)
      (h : IngestsPrimary s c l) :
      NextState s i (respondRx true (some true) (proofOfLife now (faultAck (parseV2Primary p s))))
  | legacy (hr : Ready s) (c : U16) (l : Byte) (p : Payload) (now : U64) (hi : Ingests i c l p now)
      (h : IngestsPrimary s c l) :
      NextState s i (respondRx true (some false) (proofOfLife now (parseLegacyPrimary p s)))
  | secondary (hr : Ready s) (c : U16) (l : Byte) (p : Payload) (now : U64) (hi : Ingests i c l p now) :
      NextState s i (respondRx true none (parseLegacySecondary p s))
  | tertiary (hr : Ready s) (c : U16) (l : Byte) (p : Payload) (now : U64) (hi : Ingests i c l p now) :
      NextState s i (respondRx true none (parseLegacyTertiary p s))
  | unconfigure (hr : Ready s) (hi : i = .writeConfig 0 0) :
      NextState s i (respond .ok .none (telemetryLoss { s with cfg := writeConfigReg 0 0 s.cfg }))
  | writeConfig (hr : Ready s) (reg : Byte) (value : U32) (hi : i = .writeConfig reg value)
      (h1 : configRegAssigned reg = true) (h2 : configValueLegal reg value = true)
      (h0 : ¬ (reg = 0x00 ∧ value = 0)) (h3 : ¬ (reg = 0x01 ∧ value = 0 ∧ s.mode = .amps)) :
      NextState s i (respond .ok .none { s with cfg := writeConfigReg reg value s.cfg })
  | resetRefused (hi : IsReset i) : NextState s i (raiseContractViolation .cvConfigValue s)
  | reset (hi : IsReset i) (c : CfgRegs) (now : U64) : NextState s i (resetState c now s)

theorem exec_nextState {i : Instr} {s t : State} (h : exec i s = .next t) : NextState s i t := by
  obtain hr | ⟨hr, he⟩ | ⟨-, hf, rfl⟩ := exec_next_cases h
  · obtain rfl | ⟨c, now, rfl⟩ := exec_reset_cases hr h
    · exact .resetRefused hr
    · exact .reset hr _ _
  · cases he with
    | answer => exact .answer hr _
    | violation _ _ _ hv => exact .violation hr _ _ hv
    | send => exact .send hr _ _
    | setPosition sp => exact .setpoint hr .position sp (.inl rfl) (by simp)
    | setSpeed sp => exact .setpoint hr .speed sp (.inr (.inl rfl)) (by simp)
    | setAmps sp ha => exact .setpoint hr .amps sp (.inr (.inr rfl)) (fun _ => ha)
    | setUndefined => exact .setUndefined hr
    | execute flags now =>
      obtain ⟨s', l, hp, ⟨r, ht⟩ | ⟨ht, he⟩⟩ := tick_cases (connectedFlag flags) now s
      · rw [ht]
        exact .tickEnd hr _ _ rfl _ _ hp
      · generalize tick _ _ _ = u at he
        cases hp with
        | lost k => cases ht
        | kept k =>
          cases he with
          | none => exact .tickEnd hr _ _ rfl _ _ (.kept k)
          | frame e hl =>
            have hl' : ¬ LegacyAmps s := by simpa [LegacyAmps] using hl
            rw [sendAnswer_checkAndRestartRpdo]
            exact .tickSend hr _ _ rfl k l e.cobId e.payload ht hl'
          | unreachable hl => exact .tickUnreachable hr _ _ rfl k ht (by simpa [LegacyAmps] using hl)
    | halt flags =>
      obtain ⟨r, he⟩ | he := haltBody_cases (connectedFlag flags) s
      · rw [he]
        exact .haltEnd hr _ rfl _ _ (neutralize_neutralized s)
      · generalize haltBody _ _ = u at he
        cases he with
        | none => exact .haltEnd hr _ rfl _ _ (neutralize_neutralized s)
        | frame e hl => exact .haltSend hr _ rfl _ _ _ _ (neutralize_neutralized s) hl
        | unreachable hl => exact .haltUnreachable hr _ rfl _ (neutralize_neutralized s) hl
    | ingest i c l p now hi =>
      have he := ingest_ingested c l p now s
      generalize ingest c l p now s = u at he
      cases he with
      | tooLong => exact .violation hr _ _ rfl
      | wide => exact .violation hr _ _ rfl
      | noEncoder => exact .violation hr _ _ rfl
      | answer => exact .answer hr _
      | v2 hp => exact .v2 hr _ _ _ _ hi hp
      | v2Ack hp => exact .v2Ack hr _ _ _ _ hi hp
      | legacy hp => exact .legacy hr _ _ _ _ hi hp
      | secondary => exact .secondary hr _ _ _ _ hi
      | tertiary => exact .tertiary hr _ _ _ _ hi
    | writeConfig reg value h1 h2 h3 =>
      obtain ⟨rfl, rfl, he⟩ | ⟨h0, he⟩ := writeConfigBody_cases h1 h2 h3 <;> rw [he]
      · exact .unconfigure hr rfl
      · exact .writeConfig hr _ _ rfl h1 h2 h0 h3
  · exact .fault hf

/-- No operation takes the first RESET back (R199). -/
theorem exec_keeps_initialised {i : Instr} {s t : State} (h : exec i s = .next t) (hs : s.initialised = true) :
    t.initialised = true := by
  cases exec_nextState h with
  | tickEnd _ _ _ _ _ _ hp => cases hp <;> simpa using hs
  | haltEnd _ _ _ _ _ hp => cases hp <;> simpa using hs
  | haltSend _ _ _ _ _ _ _ hp => cases hp <;> simpa using hs
  | haltUnreachable _ _ _ _ hp => cases hp <;> simpa using hs
  | legacy => simp only [respondRx, respond_initialised, proofOfLife, restartHealth, parseLegacyPrimary]; split <;> exact hs
  | reset => rfl
  | _ => first | exact hs | simpa using hs

end Sys2Proof.Machine
end

