-- ==== Sys2Proof/Laws/PerInstr.lean ====
section
/-! SUPPORT. Laws of each instruction as syntax. EncodeLength: an encoded instruction is one frame, or a host
command of exactly the length its opcode gives (R80, R85, R90). -/

namespace Sys2Proof.Laws.EncodeLength

/-- An encoded instruction is one frame, or as many bytes as its opcode says (R85). -/
def Statement (i : Instr) : Prop :=
  match encode i with
  | [] => False
  | .byte op :: rest => rest.length + 1 = hostLength op
  | .frame _ :: rest => rest = []

theorem sdoWrite (node : Byte) (index : U16) (subindex : Byte) (w : Byte) (data : U32) :
    Statement (.sdoWrite node index subindex w data) := by
  unfold Statement; rfl

theorem sdoReadReq (node : Byte) (index : U16) (subindex : Byte) (w : Byte) :
    Statement (.sdoReadReq node index subindex w) := by
  unfold Statement; rfl

theorem rpdoSend (node : Byte) (channelBase : U16) (commandCode : U16) (offset : Byte)
    (w : Byte) (data : U32) :
    Statement (.rpdoSend node channelBase commandCode offset w data) := by
  unfold Statement; rfl

theorem decodeCobId (cobId : U16) :
    Statement (.decodeCobId cobId) := by
  unfold Statement; rfl

theorem decodeSdoIndex (payload : Payload) :
    Statement (.decodeSdoIndex payload) := by
  unfold Statement; rfl

theorem decodeSdoSubindex (payload : Payload) :
    Statement (.decodeSdoSubindex payload) := by
  unfold Statement; rfl

theorem bfHi (v : U16) :
    Statement (.bfHi v) := by
  unfold Statement; rfl

theorem bfLo (v : U16) :
    Statement (.bfLo v) := by
  unfold Statement; rfl

theorem bfSetHi (v : U16) (b : Byte) :
    Statement (.bfSetHi v b) := by
  unfold Statement; rfl

theorem bfSetLo (v : U16) (b : Byte) :
    Statement (.bfSetLo v b) := by
  unfold Statement; rfl

theorem execute (flags : Byte) (nowUs : U64) :
    Statement (.execute flags nowUs) := by
  unfold Statement; rfl

theorem rxFrame (sourceCobId : U16) (length : Byte) (payload : Payload) (timestamp : U64)
    (nowUs : U64) :
    Statement (.rxFrame sourceCobId length payload timestamp nowUs) := by
  unfold Statement; rfl

theorem setPosition (sp : U16) :
    Statement (.setPosition sp) := by
  unfold Statement; rfl

theorem setSpeed (sp : U16) :
    Statement (.setSpeed sp) := by
  unfold Statement; rfl

theorem setAmps (sp : U16) :
    Statement (.setAmps sp) := by
  unfold Statement; rfl

theorem setUndefined :
    Statement (.setUndefined) := by
  unfold Statement; rfl

theorem halt (flags : Byte) :
    Statement (.halt flags) := by
  unfold Statement; rfl

theorem getPosition :
    Statement (.getPosition) := by
  unfold Statement; rfl

theorem getSpeed :
    Statement (.getSpeed) := by
  unfold Statement; rfl

theorem getAmps :
    Statement (.getAmps) := by
  unfold Statement; rfl

theorem getStatusWord :
    Statement (.getStatusWord) := by
  unfold Statement; rfl

theorem getLegacyFaultStatus :
    Statement (.getLegacyFaultStatus) := by
  unfold Statement; rfl

theorem readReg (reg : Byte) :
    Statement (.readReg reg) := by
  unfold Statement; rfl

theorem writeConfig (reg : Byte) (value : U32) :
    Statement (.writeConfig reg value) := by
  unfold Statement; rfl

theorem reset (nodeId : Byte) (protocol : Byte) (encoderPresent : Byte) (rpdoIntervalUs : U32)
    (healthTimeoutUs : U32) (posMin : U16) (posMax : U16) (speedMin : U16) (speedMax : U16) (ampsMin : U16) (ampsMax : U16) (nowUs : U64) :
    Statement (.reset nodeId protocol encoderPresent rpdoIntervalUs healthTimeoutUs posMin posMax speedMin speedMax ampsMin ampsMax nowUs) := by
  unfold Statement; rfl

theorem sdoDownload1B (node : NodeId) (index : U16) (subindex : Byte) (data : Byte) :
    Statement (.sdoDownload1B node index subindex data) := by
  unfold Statement; rfl

theorem sdoDownload2B (node : NodeId) (index : U16) (subindex : Byte) (data : U16) :
    Statement (.sdoDownload2B node index subindex data) := by
  unfold Statement; rfl

theorem sdoDownload4B (node : NodeId) (index : U16) (subindex : Byte) (data : U32) :
    Statement (.sdoDownload4B node index subindex data) := by
  unfold Statement; rfl

theorem sdoUploadReq1B (node : NodeId) (index : U16) (subindex : Byte) :
    Statement (.sdoUploadReq1B node index subindex) := by
  unfold Statement; rfl

theorem sdoUploadReq2B (node : NodeId) (index : U16) (subindex : Byte) :
    Statement (.sdoUploadReq2B node index subindex) := by
  unfold Statement; rfl

theorem sdoUploadReq4B (node : NodeId) (index : U16) (subindex : Byte) :
    Statement (.sdoUploadReq4B node index subindex) := by
  unfold Statement; rfl

theorem v2CmdPosition (node : NodeId) (sp : U16) :
    Statement (.v2CmdPosition node sp) := by
  unfold Statement; rfl

theorem v2CmdSpeed (node : NodeId) (sp : U16) :
    Statement (.v2CmdSpeed node sp) := by
  unfold Statement; rfl

theorem v2CmdAmps (node : NodeId) (sp : U16) :
    Statement (.v2CmdAmps node sp) := by
  unfold Statement; rfl

theorem v2FaultAck (node : NodeId) :
    Statement (.v2FaultAck node) := by
  unfold Statement; rfl

theorem legacyCmdPosition (node : NodeId) (sp : U16) :
    Statement (.legacyCmdPosition node sp) := by
  unfold Statement; rfl

theorem legacyCmdSpeedEncoder (node : NodeId) (sp : U16) :
    Statement (.legacyCmdSpeedEncoder node sp) := by
  unfold Statement; rfl

theorem legacyCmdSpeedNoEncoder (node : NodeId) (sp : U16) :
    Statement (.legacyCmdSpeedNoEncoder node sp) := by
  unfold Statement; rfl

theorem tpdoPrimary (node : NodeId) (length : Byte) (payload : Payload) (timestamp : U64) (nowUs : U64) :
    Statement (.tpdoPrimary node length payload timestamp nowUs) := by
  unfold Statement; rfl

theorem tpdoSecondary (node : NodeId) (length : Byte) (payload : Payload) (timestamp : U64) (nowUs : U64) :
    Statement (.tpdoSecondary node length payload timestamp nowUs) := by
  unfold Statement; rfl

theorem tpdoTertiary (node : NodeId) (length : Byte) (payload : Payload) (timestamp : U64) (nowUs : U64) :
    Statement (.tpdoTertiary node length payload timestamp nowUs) := by
  unfold Statement; rfl

theorem tpdoQuaternary (node : NodeId) (length : Byte) (payload : Payload) (timestamp : U64) (nowUs : U64) :
    Statement (.tpdoQuaternary node length payload timestamp nowUs) := by
  unfold Statement; rfl

end Sys2Proof.Laws.EncodeLength
end

