-- ==== Sys2Proof/Tests/Slice0.lean ====
section
/-! SUPPORT. Tests of the model against spec/95_test_vectors.md and the encoding tables, and witnesses that the
hypotheses of the obligations can be met. Expected results are the spec's, never the model's. -/

namespace Sys2Proof.Tests

open Sys2Proof Sys2Proof.Machine

/-! ## WellFormed refuses an ill-formed term of each check -/

theorem test_illFormed_sdoWrite_node : Instr.wellFormed (.sdoWrite 128 0x6040 0 2 0) = false := by decide
theorem test_illFormed_sdoWrite_width : Instr.wellFormed (.sdoWrite 5 0x6040 0 3 0) = false := by decide
theorem test_illFormed_sdoReadReq_node : Instr.wellFormed (.sdoReadReq 255 0x1018 1 4) = false := by decide
theorem test_illFormed_sdoReadReq_width : Instr.wellFormed (.sdoReadReq 127 0x1018 1 0) = false := by decide
theorem test_illFormed_rpdoSend_node : Instr.wellFormed (.rpdoSend 128 0x200 0 2 1 0) = false := by decide
theorem test_illFormed_rpdoSend_cob : Instr.wellFormed (.rpdoSend 1 0x7FF 0 2 1 0) = false := by decide
theorem test_illFormed_rpdoSend_width : Instr.wellFormed (.rpdoSend 1 0x200 0x0021 2 3 0) = false := by decide
theorem test_illFormed_rpdoSend_offsetLow : Instr.wellFormed (.rpdoSend 1 0x200 0x0021 1 2 0) = false :=
    by decide
theorem test_illFormed_rpdoSend_offsetHigh : Instr.wellFormed (.rpdoSend 1 0x200 0x1234 5 4 0) = false :=
    by decide
theorem test_illFormed_decodeCobId : Instr.wellFormed (.decodeCobId 0x800) = false := by decide
theorem test_illFormed_execute_flags : Instr.wellFormed (.execute 0x03 0) = false := by decide
theorem test_illFormed_halt_flags : Instr.wellFormed (.halt 0x80) = false := by decide
theorem test_illFormed_rxFrame_length : Instr.wellFormed (.rxFrame 0x185 9 ⟨0, 0, 0, 0, 0, 0, 0, 0⟩ 0 0) =
    false := by decide
theorem test_illFormed_rxFrame_cob : Instr.wellFormed (.rxFrame 0x985 8 ⟨0, 0, 0, 0, 0, 0, 0, 0⟩ 0 0) =
    false := by decide
theorem test_illFormed_readReg_low : Instr.wellFormed (.readReg 0x0B) = false := by decide
theorem test_illFormed_readReg_high : Instr.wellFormed (.readReg 0x16) = false := by decide
theorem test_illFormed_writeConfig_reg : Instr.wellFormed (.writeConfig 0x10 1) = false := by decide
theorem test_illFormed_writeConfig_node : Instr.wellFormed (.writeConfig 0x00 128) = false := by decide
theorem test_illFormed_writeConfig_protocol : Instr.wellFormed (.writeConfig 0x01 2) = false := by decide
theorem test_illFormed_writeConfig_limit : Instr.wellFormed (.writeConfig 0x05 0x10000) = false := by decide
theorem test_illFormed_reset_node : Instr.wellFormed (.reset 128 1 1 0 0 0 0 0 0 0 0 0) = false := by decide
theorem test_illFormed_reset_protocol : Instr.wellFormed (.reset 5 2 1 0 0 0 0 0 0 0 0 0) = false := by decide
theorem test_illFormed_reset_encoder : Instr.wellFormed (.reset 5 1 2 0 0 0 0 0 0 0 0 0) = false := by decide
theorem test_illFormed_tpdoPrimary : Instr.wellFormed (.tpdoPrimary 5 9 ⟨0, 0, 0, 0, 0, 0, 0, 0⟩ 0 0) =
    false := by decide
theorem test_illFormed_tpdoSecondary : Instr.wellFormed (.tpdoSecondary 5 9 ⟨0, 0, 0, 0, 0, 0, 0, 0⟩ 0 0) =
    false := by decide
theorem test_illFormed_tpdoTertiary : Instr.wellFormed (.tpdoTertiary 5 9 ⟨0, 0, 0, 0, 0, 0, 0, 0⟩ 0 0) =
    false := by decide
theorem test_illFormed_tpdoQuaternary : Instr.wellFormed (.tpdoQuaternary 5 9 ⟨0, 0, 0, 0, 0, 0, 0, 0⟩ 0 0) =
    false := by decide

/-! ## Words written out from the encodings (R63 to R74, R80, R81) decode to their instructions -/

/-- What a command's bytes decode to, if the whole of them is one instruction. -/
def reads (bytes : List Byte) : Option (Instr × List PortItem) := (decode (hostItems bytes)).toOption

/-- What a frame decodes to. -/
def readsFrame (f : Frame) : Option (Instr × List PortItem) := (decode [.frame f]).toOption

theorem test_decode_sdoWrite : reads [0x01, 0x01, 0x40, 0x60, 0x00, 0x02, 0x0F, 0x00, 0x00, 0x00] =
    some (.sdoWrite 1 0x6040 0 2 0x000F, []) := by decide
theorem test_decode_sdoReadReq : reads [0x02, 0x7F, 0x18, 0x10, 0x01, 0x04] =
    some (.sdoReadReq 127 0x1018 1 4, []) := by decide
theorem test_decode_rpdoSend : reads
    [0x03, 0x01, 0x00, 0x02, 0x21, 0x00, 0x01, 0x02, 0x10, 0x00, 0x00, 0x00] =
    some (.rpdoSend 1 0x200 0x0021 1 2 0x0010, []) := by decide
theorem test_decode_decodeCobId : reads [0x04, 0x85, 0x01] =
    some (.decodeCobId 0x185, []) := by decide
theorem test_decode_decodeSdoIndex : reads [0x05, 0x43, 0x18, 0x10, 0x01, 0x00, 0x00, 0x00, 0x00] =
    some (.decodeSdoIndex ⟨0x43, 0x18, 0x10, 0x01, 0, 0, 0, 0⟩, []) := by decide
theorem test_decode_decodeSdoSubindex : reads [0x06, 0x43, 0x18, 0x10, 0x01, 0x00, 0x00, 0x00, 0x77] =
    some (.decodeSdoSubindex ⟨0x43, 0x18, 0x10, 0x01, 0, 0, 0, 0x77⟩, []) := by decide
theorem test_decode_bfHi : reads [0x08, 0x34, 0x12] =
    some (.bfHi 0x1234, []) := by decide
theorem test_decode_bfLo : reads [0x09, 0x34, 0x12] =
    some (.bfLo 0x1234, []) := by decide
theorem test_decode_bfSetHi : reads [0x0A, 0x34, 0x12, 0xAB] =
    some (.bfSetHi 0x1234 0xAB, []) := by decide
theorem test_decode_bfSetLo : reads [0x0B, 0x34, 0x12, 0xAB] =
    some (.bfSetLo 0x1234 0xAB, []) := by decide
theorem test_decode_execute : reads [0x10, 0x01, 0x11, 0x27, 0x00, 0x00, 0x00, 0x00, 0x00, 0x00] =
    some (.execute 1 10001, []) := by decide
theorem test_decode_rxFrame : reads
    [0x11, 0x85, 0x01, 0x08, 0x00, 0x01, 0xF4, 0x01, 0x00, 0x00, 0x00, 0x00, 0x00, 0x00, 0x00, 0x00, 0x00,
      0x00, 0x00, 0x00, 0xE0, 0x2E, 0x00, 0x00, 0x00, 0x00, 0x00, 0x00] =
    some (.rxFrame 0x185 8 ⟨0, 0x01, 0xF4, 0x01, 0, 0, 0, 0⟩ 0 12000, []) := by decide
theorem test_decode_setPosition : reads [0x20, 0xF4, 0x01] =
    some (.setPosition 500, []) := by decide
theorem test_decode_setSpeed : reads [0x21, 0x38, 0xFF] =
    some (.setSpeed 0xFF38, []) := by decide
theorem test_decode_setAmps : reads [0x22, 0x2C, 0x01] =
    some (.setAmps 300, []) := by decide
theorem test_decode_setUndefined : reads [0x23] =
    some (.setUndefined, []) := by decide
theorem test_decode_halt : reads [0x24, 0x01] =
    some (.halt 1, []) := by decide
theorem test_decode_getPosition : reads [0x30] =
    some (.getPosition, []) := by decide
theorem test_decode_getSpeed : reads [0x31] =
    some (.getSpeed, []) := by decide
theorem test_decode_getAmps : reads [0x32] =
    some (.getAmps, []) := by decide
theorem test_decode_getStatusWord : reads [0x33] =
    some (.getStatusWord, []) := by decide
theorem test_decode_getLegacyFaultStatus : reads [0x34] =
    some (.getLegacyFaultStatus, []) := by decide
theorem test_decode_readReg : reads [0x38, 0x13] =
    some (.readReg 0x13, []) := by decide
theorem test_decode_writeConfig : reads [0x39, 0x00, 0x09, 0x00, 0x00, 0x00] =
    some (.writeConfig 0 9, []) := by decide
theorem test_decode_reset : reads
    [0xF0, 0x05, 0x01, 0x01, 0x10, 0x27, 0x00, 0x00, 0xA0, 0x86, 0x01, 0x00, 0x00, 0x00, 0xE8, 0x03, 0x18,
      0xFC, 0xE8, 0x03, 0x0C, 0xFE, 0xF4, 0x01, 0x00, 0x00, 0x00, 0x00, 0x00, 0x00, 0x00, 0x00] =
    some (.reset 5 1 1 10000 100000 0 1000 0xFC18 1000 0xFE0C 500 0, []) := by decide
theorem test_decode_sdoDownload1B : readsFrame
    ⟨.sdo, 0x600, 8, ⟨0x2F, 0x17, 0x10, 0x00, 0xAB, 0x00, 0x00, 0x00⟩, 0, 0⟩ =
    some (.sdoDownload1B 0 0x1017 0 0xAB, []) := by decide
theorem test_decode_sdoDownload2B : readsFrame
    ⟨.sdo, 0x605, 8, ⟨0x2B, 0x40, 0x60, 0x00, 0x0F, 0x00, 0x00, 0x00⟩, 0, 0⟩ =
    some (.sdoDownload2B 5 0x6040 0 0x000F, []) := by decide
theorem test_decode_sdoDownload4B : readsFrame
    ⟨.sdo, 0x67F, 8, ⟨0x23, 0x00, 0x20, 0xFF, 0x78, 0x56, 0x34, 0x12⟩, 0, 0⟩ =
    some (.sdoDownload4B 127 0x2000 0xFF 0x12345678, []) := by decide
theorem test_decode_sdoUploadReq1B : readsFrame
    ⟨.sdo, 0x602, 8, ⟨0x4F, 0x01, 0x10, 0x00, 0x00, 0x00, 0x00, 0x00⟩, 0, 0⟩ =
    some (.sdoUploadReq1B 2 0x1001 0, []) := by decide
theorem test_decode_sdoUploadReq2B : readsFrame
    ⟨.sdo, 0x602, 8, ⟨0x4B, 0x41, 0x60, 0x00, 0x00, 0x00, 0x00, 0x00⟩, 0, 0⟩ =
    some (.sdoUploadReq2B 2 0x6041 0, []) := by decide
theorem test_decode_sdoUploadReq4B : readsFrame
    ⟨.sdo, 0x67F, 8, ⟨0x43, 0x18, 0x10, 0x01, 0x00, 0x00, 0x00, 0x00⟩, 0, 0⟩ =
    some (.sdoUploadReq4B 127 0x1018 1, []) := by decide
theorem test_decode_v2CmdPosition : readsFrame
    ⟨.rpdoV2, 0x205, 8, ⟨0x21, 0x00, 0xE8, 0x03, 0x00, 0x00, 0x00, 0x00⟩, 0, 0⟩ =
    some (.v2CmdPosition 5 1000, []) := by decide
theorem test_decode_v2CmdSpeed : readsFrame
    ⟨.rpdoV2, 0x201, 8, ⟨0x05, 0x00, 0x00, 0x00, 0xFF, 0xFF, 0x00, 0x00⟩, 0, 0⟩ =
    some (.v2CmdSpeed 1 0xFFFF, []) := by decide
theorem test_decode_v2CmdAmps : readsFrame
    ⟨.rpdoV2, 0x209, 8, ⟨0x01, 0x00, 0x00, 0x00, 0x00, 0x00, 0xD4, 0xFE⟩, 0, 0⟩ =
    some (.v2CmdAmps 9 0xFED4, []) := by decide
theorem test_decode_v2FaultAck : readsFrame
    ⟨.rpdoV2, 0x201, 8, ⟨0x02, 0x00, 0x00, 0x00, 0x00, 0x00, 0x00, 0x00⟩, 0, 0⟩ =
    some (.v2FaultAck 1, []) := by decide
theorem test_decode_legacyCmdPosition : readsFrame
    ⟨.rpdoLegacy, 0x203, 8, ⟨0xE8, 0x03, 0x00, 0x00, 0x03, 0x00, 0x00, 0x00⟩, 0, 0⟩ =
    some (.legacyCmdPosition 3 1000, []) := by decide
theorem test_decode_legacyCmdSpeedEncoder : readsFrame
    ⟨.rpdoLegacy, 0x303, 8, ⟨0x38, 0xFF, 0x00, 0x00, 0x03, 0x00, 0x00, 0x00⟩, 0, 0⟩ =
    some (.legacyCmdSpeedEncoder 3 0xFF38, []) := by decide
/-- The frame of LEGACY_CMD_SPEED_NO_ENCODER is also LEGACY_CMD_POSITION's (R67). -/
theorem test_encode_legacyCmdSpeedNoEncoder : encode (.legacyCmdSpeedNoEncoder 3 0xFF38) =
    [.frame ⟨.rpdoLegacy, 0x203, 8, ⟨0x38, 0xFF, 0, 0, 0x03, 0, 0, 0⟩, 0, 0⟩] := by decide
theorem test_decode_tpdoPrimary : readsFrame
    ⟨.tpdo, 0x185, 8, ⟨0x00, 0x00, 0xF4, 0x01, 0x38, 0xFF, 0x2C, 0x01⟩, 0, 2000⟩ =
    some (.tpdoPrimary 5 8 ⟨0, 0, 0xF4, 0x01, 0x38, 0xFF, 0x2C, 0x01⟩ 0 2000, []) := by decide
theorem test_decode_tpdoSecondary : readsFrame
    ⟨.tpdo, 0x287, 8, ⟨0x00, 0x00, 0x00, 0x00, 0x9C, 0xFF, 0x00, 0x00⟩, 0, 2000⟩ =
    some (.tpdoSecondary 7 8 ⟨0, 0, 0, 0, 0x9C, 0xFF, 0, 0⟩ 0 2000, []) := by decide
theorem test_decode_tpdoTertiary : readsFrame
    ⟨.tpdo, 0x383, 2, ⟨0x34, 0x12, 0x00, 0x00, 0x00, 0x00, 0x00, 0x00⟩, 9, 2000⟩ =
    some (.tpdoTertiary 3 2 ⟨0x34, 0x12, 0, 0, 0, 0, 0, 0⟩ 9 2000, []) := by decide
theorem test_decode_tpdoQuaternary : readsFrame
    ⟨.tpdo, 0x485, 0, ⟨0x00, 0x00, 0x00, 0x00, 0x00, 0x00, 0x00, 0x01⟩, 0, 2000⟩ =
    some (.tpdoQuaternary 5 0 ⟨0, 0, 0, 0, 0, 0, 0, 1⟩ 0 2000, []) := by decide

/-- T-ILL-1: 0x07 is no opcode. -/
theorem test_decode_unassigned : reads [0x07] = none := by decide
/-- R77: 0x40 is no SDO command byte of R64. -/
theorem test_decode_noSdoRow : readsFrame ⟨.sdo, 0x605, 8, ⟨0x40, 0, 0, 0, 0, 0, 0, 0⟩, 0, 0⟩ = none :=
    by decide

/-! ## Small states: the configurations of spec/95_test_vectors.md -/

def limits (node : NodeId) (protocol : Protocol) (encoder : Bool) : CfgRegs where
  nodeId := node
  protocol := protocol
  encoderPresent := encoder
  rpdoIntervalUs := 10000
  healthTimeoutUs := 100000
  posMin := 0
  posMax := 1000
  speedMin := 0xFC18
  speedMax := 1000
  ampsMin := 0xFE0C
  ampsMax := 500

/-- `V5`, `L3` and `L7E`, just reset at time 0. -/
def v5 : State := { State.reset with cfg := limits 5 .canopenV2 true }
def l3 : State := { State.reset with cfg := limits 3 .legacy false }
def l7e : State := { State.reset with cfg := limits 7 .legacy true }

/-- The start state of T-TICK-1 to T-TICK-9, with another mode and setpoint. -/
def ticking (s : State) (m : Mode) (sp : U16) : State :=
  { s with
    telem := .telemetryPresent, mode := m, setpoint := sp, faultAckCount := 2
    healthStart := 50000, rpdoStart := 40000 }

/-- The snapshot of T-RX-1. -/
def afterRx1 (s : State) : State :=
  { s with snap := ⟨500, 0xFF38, 0x012C, 0, 0, true, true, true, true, false⟩ }

/-- What `f` sees after one instruction, if there is a next state. -/
def sees {α : Type} (i : Instr) (s : State) (f : State → α) : Option α :=
  match exec i s with
  | .next t => some (f t)
  | .fault _ => none
  | .refused _ => none

/-- Status and value. -/
def reply (t : State) : Status × Result := (t.response.status, t.response.result)

/-- Status, latch and first code. -/
def latch (t : State) : Status × Bool × Byte := (t.response.status, t.cvLatched, t.cvFirstCode)

/-! ## One step each -/

/-- T-CODEC-1. -/
theorem test_sdoWrite : sees (.sdoWrite 5 0x6040 0 2 0x000F) l3 (·.trace) =
    some ([⟨0x605, ⟨0x2B, 0x40, 0x60, 0, 0x0F, 0, 0, 0⟩⟩]) := by decide
/-- T-CODEC-6. -/
theorem test_sdoWrite_order : sees (.sdoWrite 128 0x6060 0 3 0) v5 latch =
    some ((.cvNodeRange, true, 0x13)) := by decide
/-- T-CODEC-7. -/
theorem test_sdoReadReq : sees (.sdoReadReq 127 0x1018 1 4) v5 (·.trace) =
    some ([⟨0x67F, ⟨0x43, 0x18, 0x10, 0x01, 0, 0, 0, 0⟩⟩]) := by decide
/-- T-CODEC-10. -/
theorem test_sdoReadReq_width : sees (.sdoReadReq 2 0x1001 0 0) v5 latch =
    some ((.cvWidth, true, 0x10)) := by decide
/-- T-CODEC-17. -/
theorem test_rpdoSend : sees (.rpdoSend 1 0x200 0x1234 4 4 0xAABBCCDD) v5 (·.trace) =
    some ([⟨0x201, ⟨0x34, 0x12, 0, 0, 0xDD, 0xCC, 0xBB, 0xAA⟩⟩]) := by decide
/-- T-CODEC-24. -/
theorem test_rpdoSend_added : sees (.rpdoSend 1 0x201 0 2 1 0) v5 (·.trace) =
    some ([⟨0x202, ⟨0, 0, 0, 0, 0, 0, 0, 0⟩⟩]) := by decide
/-- T-CODEC-28. -/
theorem test_decodeCobId : sees (.decodeCobId 0x7FF) v5 reply =
    some ((.ok, .cobParts 0x780 127)) := by decide
/-- T-CODEC-30. -/
theorem test_decodeCobId_wide : sees (.decodeCobId 0x800) v5 latch =
    some ((.cvCobRange, true, 0x12)) := by decide
/-- T-CODEC-32. -/
theorem test_decodeSdoIndex : sees (.decodeSdoIndex ⟨0x43, 0x18, 0x10, 0x01, 0, 0, 0, 0⟩) v5 reply =
    some ((.ok, .word 0x1018)) := by decide
/-- T-CODEC-34. -/
theorem test_decodeSdoSubindex : sees (.decodeSdoSubindex ⟨0x43, 0x18, 0x10, 0x01, 0, 0, 0, 0⟩) v5 reply =
    some ((.ok, .byte 0x01)) := by decide
/-- T-CODEC-36. -/
theorem test_bfHi : sees (.bfHi 0x1234) v5 reply =
    some ((.ok, .byte 0x12)) := by decide
/-- T-CODEC-36. -/
theorem test_bfLo : sees (.bfLo 0x1234) v5 reply =
    some ((.ok, .byte 0x34)) := by decide
/-- T-CODEC-38. -/
theorem test_bfSetHi : sees (.bfSetHi 0x1234 0xAB) v5 reply =
    some ((.ok, .word 0xAB34)) := by decide
/-- T-CODEC-38. -/
theorem test_bfSetLo : sees (.bfSetLo 0x1234 0xAB) v5 reply =
    some ((.ok, .word 0x12AB)) := by decide
/-- T-TICK-2: the timeout acts, R is restarted and nothing is sent. -/
theorem test_execute : sees (.execute 1 150001) (ticking v5 .position 0x01F4) (fun t =>
    (reply t, t.telem, t.faultAckCount, t.rpdoStart, t.trace)) =
    some ((.ok, .tick .timeout true none), .noTelemetry, 0, 150001, []) := by decide
/-- T-TICK-4. -/
theorem test_execute_sends : sees (.execute 1 55000) (ticking v5 .position 0x01F4) (fun t => (t.rpdoStart,
    t.trace)) =
    some (55000, [⟨0x205, ⟨0x21, 0, 0xF4, 0x01, 0, 0, 0, 0⟩⟩]) := by decide
/-- T-RX-1. -/
theorem test_rxFrame : sees (.rxFrame 0x185 8 ⟨0, 0, 0xF4, 0x01, 0x38, 0xFF, 0x2C, 0x01⟩ 0 2000) v5 (fun t =>
    (reply t, t.telem, t.healthStart, t.snap, t.trace)) =
    some ((.ok, .rx true (some false)), .telemetryPresent, 2000,
      ⟨500, 0xFF38, 0x012C, 0, 0, true, true, true, true, false⟩, []) := by decide
/-- T-RX-5: the counter saturates and one fault-ACK is sent. -/
theorem test_rxFrame_fault : sees (.rxFrame 0x185 8 ⟨0, 0x40, 0, 0, 0, 0, 0, 0⟩ 0 2000)
    { v5 with faultAckCount := 0xFFFFFFFF } (fun t =>
    (reply t, t.faultAckCount, t.trace.map (·.cobId))) =
    some ((.ok, .rx true (some true)), 0xFFFFFFFF, [0x205]) := by decide
/-- T-SET-1. -/
theorem test_setPosition : sees (.setPosition 1000) v5 (fun t => (t.mode, t.setpoint)) =
    some (.position, 0x03E8) := by decide
/-- T-SET-2. -/
theorem test_setPosition_above : sees (.setPosition 1001) v5 (fun t => (latch t, t.mode, t.setpoint)) =
    some ((.cvSetpointRange, true, 0x14), .undefined, 0) := by decide
/-- T-SET-3. -/
theorem test_setSpeed : sees (.setSpeed 0xFC18) v5 (fun t => (t.mode, t.setpoint)) =
    some (.speed, 0xFC18) := by decide
/-- T-SET-3: -1001. -/
theorem test_setSpeed_below : sees (.setSpeed 0xFC17) v5 latch =
    some ((.cvSetpointRange, true, 0x14)) := by decide
/-- T-SET-5. -/
theorem test_setAmps : sees (.setAmps 300) v5 (fun t => (t.mode, t.setpoint)) =
    some (.amps, 0x012C) := by decide
/-- T-SET-8. -/
theorem test_setAmps_legacy : sees (.setAmps 9999) l3 latch =
    some ((.cvUnsupportedMode, true, 0x16)) := by decide
/-- T-SET-9. -/
theorem test_setUndefined : sees (.setUndefined) (ticking v5 .speed 0x0064) (fun t => (t.mode, t.setpoint)) =
    some (.undefined, 0x0064) := by decide
/-- T-HALT-1. -/
theorem test_halt : sees (.halt 1) (afterRx1 (ticking v5 .position 900)) (fun t =>
    (t.mode, t.setpoint, t.rpdoStart, t.trace)) =
    some (.position, 500, 40000, [⟨0x205, ⟨0x21, 0, 0xF4, 0x01, 0, 0, 0, 0⟩⟩]) := by decide
/-- T-HALT-6. -/
theorem test_halt_noPosition : sees (.halt 1) (ticking l3 .position 900) (fun t => (reply t, t.mode, t.trace)) =
    some ((.ok, .haltSent none), .undefined, []) := by decide
/-- T-GET-1. -/
theorem test_getPosition : sees (.getPosition) (afterRx1 (ticking v5 .position 0)) reply =
    some ((.ok, .word 500)) := by decide
/-- T-GET-3. -/
theorem test_getPosition_lost : sees (.getPosition) v5 latch =
    some ((.cvNoTelemetry, true, 0x15)) := by decide
/-- T-GET-1. -/
theorem test_getSpeed : sees (.getSpeed) (afterRx1 (ticking v5 .position 0)) reply =
    some ((.ok, .signed (-200))) := by decide
/-- T-GET-1. -/
theorem test_getAmps : sees (.getAmps) (afterRx1 (ticking v5 .position 0)) reply =
    some ((.ok, .signed 300)) := by decide
/-- T-GET-4. -/
theorem test_getAmps_legacy : sees (.getAmps) (afterRx1 (ticking l3 .position 0)) latch =
    some ((.cvFieldInvalid, true, 0x19)) := by decide
/-- T-GET-1. -/
theorem test_getStatusWord : sees (.getStatusWord) (afterRx1 (ticking v5 .position 0)) reply =
    some ((.ok, .word 0)) := by decide
/-- T-GET-2. -/
theorem test_getLegacyFaultStatus : sees (.getLegacyFaultStatus) (afterRx1 (ticking v5 .position 0)) latch =
    some ((.cvFieldInvalid, true, 0x19)) := by decide
/-- T-REG-1. -/
theorem test_readReg : sees (.readReg 0x07) v5 reply =
    some ((.ok, .reg 0x0000FC18)) := by decide
/-- T-REG-2. -/
theorem test_readReg_unassigned : sees (.readReg 0x16) v5 latch =
    some ((.illegalOp, true, 0x1B)) := by decide
/-- T-CFG-4. -/
theorem test_writeConfig : sees (.writeConfig 0 0) (ticking v5 .position 0x01F4) (fun t =>
    (t.cfg.nodeId, t.telem, t.mode, t.faultAckCount)) =
    some (0, .noTelemetry, .undefined, 0) := by decide
/-- T-CFG-3. -/
theorem test_writeConfig_amps : sees (.writeConfig 1 0) (ticking v5 .amps 0) latch =
    some ((.cvUnsupportedMode, true, 0x16)) := by decide
/-- T-RST-1, from a faulted state. -/
theorem test_reset : sees (.reset 5 1 1 10000 100000 0 1000 0xFC18 1000 0xFE0C 500 7)
    { ticking l3 .amps 9 with faulted := true, faultCode := 1 } (fun t =>
    (t.cfg, t.mode, t.faulted, t.rpdoStart)) =
    some (limits 5 .canopenV2 true, .undefined, false, 7) := by decide
/-- T-RST-2. -/
theorem test_reset_refused : sees (.reset 128 1 1 0 0 0 0 0 0 0 0 0) l3 (fun t => (latch t, t.cfg)) =
    some ((.cvConfigValue, true, 0x1A), limits 3 .legacy false) := by decide
/-- the frame of T-CODEC-2. -/
theorem test_sdoDownload1B : sees (.sdoDownload1B 0 0x1017 0 0xAB) v5 (·.trace) =
    some ([⟨0x600, ⟨0x2F, 0x17, 0x10, 0, 0xAB, 0, 0, 0⟩⟩]) := by decide
/-- the frame of T-CODEC-1. -/
theorem test_sdoDownload2B : sees (.sdoDownload2B 5 0x6040 0 0x000F) v5 (·.trace) =
    some ([⟨0x605, ⟨0x2B, 0x40, 0x60, 0, 0x0F, 0, 0, 0⟩⟩]) := by decide
/-- the frame of T-CODEC-3. -/
theorem test_sdoDownload4B : sees (.sdoDownload4B 127 0x2000 0xFF 0x12345678) v5 (·.trace) =
    some ([⟨0x67F, ⟨0x23, 0, 0x20, 0xFF, 0x78, 0x56, 0x34, 0x12⟩⟩]) := by decide
/-- the frame of T-CODEC-9. -/
theorem test_sdoUploadReq1B : sees (.sdoUploadReq1B 2 0x1001 0) v5 (·.trace) =
    some ([⟨0x602, ⟨0x4F, 0x01, 0x10, 0, 0, 0, 0, 0⟩⟩]) := by decide
/-- the frame of T-CODEC-8. -/
theorem test_sdoUploadReq2B : sees (.sdoUploadReq2B 2 0x6041 0) v5 (·.trace) =
    some ([⟨0x602, ⟨0x4B, 0x41, 0x60, 0, 0, 0, 0, 0⟩⟩]) := by decide
/-- the frame of T-CODEC-7. -/
theorem test_sdoUploadReq4B : sees (.sdoUploadReq4B 127 0x1018 1) v5 (·.trace) =
    some ([⟨0x67F, ⟨0x43, 0x18, 0x10, 0x01, 0, 0, 0, 0⟩⟩]) := by decide
/-- the frame of T-CODEC-13. -/
theorem test_v2CmdPosition : sees (.v2CmdPosition 5 1000) l3 (·.trace) =
    some ([⟨0x205, ⟨0x21, 0, 0xE8, 0x03, 0, 0, 0, 0⟩⟩]) := by decide
/-- the frame of T-CODEC-12. -/
theorem test_v2CmdSpeed : sees (.v2CmdSpeed 1 0xFFFF) l3 (·.trace) =
    some ([⟨0x201, ⟨0x05, 0, 0, 0, 0xFF, 0xFF, 0, 0⟩⟩]) := by decide
/-- the frame of T-CODEC-14. -/
theorem test_v2CmdAmps : sees (.v2CmdAmps 9 0xFED4) l3 (·.trace) =
    some ([⟨0x209, ⟨0x01, 0, 0, 0, 0, 0, 0xD4, 0xFE⟩⟩]) := by decide
/-- R134. -/
theorem test_v2FaultAck : sees (.v2FaultAck 5) v5 (fun t => (t.faultAckCount,
    t.trace.map fun e => (e.cobId, e.payload.b0, e.payload.b1, e.payload.b7))) =
    some (0, [(0x205, 0x02, 0, 0)]) := by decide
/-- the frame of T-TICK-13. -/
theorem test_legacyCmdPosition : sees (.legacyCmdPosition 3 1000) v5 (·.trace) =
    some ([⟨0x203, ⟨0xE8, 0x03, 0, 0, 0x03, 0, 0, 0⟩⟩]) := by decide
/-- the frame of T-TICK-14. -/
theorem test_legacyCmdSpeedEncoder : sees (.legacyCmdSpeedEncoder 7 0xFF38) v5 (·.trace) =
    some ([⟨0x307, ⟨0x38, 0xFF, 0, 0, 0x07, 0, 0, 0⟩⟩]) := by decide
/-- the frame of T-SRC-9. -/
theorem test_legacyCmdSpeedNoEncoder : sees (.legacyCmdSpeedNoEncoder 3 0xFF38) v5 (·.trace) =
    some ([⟨0x203, ⟨0x38, 0xFF, 0, 0, 0x03, 0, 0, 0⟩⟩]) := by decide
/-- T-RX-16: no fault evaluation under Legacy. -/
theorem test_tpdoPrimary : sees (.tpdoPrimary 7 8 ⟨0, 0x7F, 0, 0, 0xF4, 0x01, 0, 0⟩ 0 2000) l7e (fun t =>
    (reply t, t.snap.position, t.telem, t.faultAckCount)) =
    some ((.ok, .rx true (some false)), 500, .telemetryPresent, 0) := by decide
/-- T-RX-17. -/
theorem test_tpdoSecondary : sees (.tpdoSecondary 7 8 ⟨0, 0, 0, 0, 0x9C, 0xFF, 0, 0⟩ 0 2000) l7e (fun t =>
    (t.snap.speed, t.snap.wSpeed, t.telem)) =
    some (0xFF9C, true, .noTelemetry) := by decide
/-- T-RX-19. -/
theorem test_tpdoSecondary_noEncoder : sees (.tpdoSecondary 3 2 ⟨0, 0, 0, 0, 0, 0, 0, 0⟩ 0 2000) l3 latch =
    some ((.cvLegacySecondaryNoEncoder, true, 0x17)) := by decide
/-- T-RX-20. -/
theorem test_tpdoTertiary : sees (.tpdoTertiary 3 8 ⟨0x34, 0x12, 0, 0, 0, 0, 0, 0⟩ 0 2000) l3
    (fun t => (t.snap.legacyFs, t.snap.wLegacyFs)) =
    some (0x1234, true) := by decide
/-- T-RX-11. -/
theorem test_tpdoQuaternary : sees (.tpdoQuaternary 5 0 ⟨0, 0, 0, 0, 0, 0, 0, 0⟩ 0 2000) v5 (fun t => (reply t,
    t.telem, t.snap)) =
    some ((.ok, .rx true none), .noTelemetry, Snapshot.cleared) := by decide
/-- T-ILL-1: an unassigned opcode at the port. -/
theorem test_step_illegal : (match step { v5 with port := [.byte 0xFF] } with
    | .next t => some (latch t)
    | _ => none) = some (.illegalOp, true, 0x1B) := by decide
/-- P1 step 2, through the port. -/
theorem test_step_setPosition : (match step { v5 with port := hostItems [0x20, 0xF4, 0x01] } with
    | .next t => some (t.mode, t.setpoint, t.port)
    | _ => none) = some (.position, 500, []) := by decide

/-! ## Witnesses: states and operands that meet the hypotheses of each obligation, at the boundaries of its
clauses. The name after `witness_` is the obligation's. -/

/-- An answer exists: the hypothesis `exec i s = .next t` is met. -/
abbrev Answers (i : Instr) (s : State) : Prop := ∃ t, exec i s = .next t

/-- A block that never had its RESET, and a faulted one. -/
def unreset : State := { v5 with initialised := false }
def stopped : State := { ticking l3 .amps 9 with faulted := true, faultCode := 1 }
/-- The unreachable Legacy Amps state, with telemetry. -/
def legacyAmps : State := ticking l3 .amps 9
/-- V5 with telemetry, and a written position. -/
def present : State := afterRx1 (ticking v5 .position 900)

def p0 : Payload := ⟨0, 0, 0, 0, 0, 0, 0, 0⟩

theorem witness_DecodeInvertsEncode : ∀ n sp, Instr.legacyCmdPosition 3 500 ≠ .legacyCmdSpeedNoEncoder n sp :=
  nofun

theorem witness_StepRunsDecodedOperation :
    decode { v5 with port := hostItems [0x24, 0x01, 0x30] }.port = .ok (.halt 1, [.byte 0x30]) := rfl

/-- Nothing issued, and the last byte missing. -/
theorem witness_IdleOrIncompletePortKeepsState :
    (0 < (encode .getPosition).length ∧ v5.port = (encode .getPosition).take 0) ∧
    (1 < (encode (.halt 1)).length ∧
      { v5 with port := [.byte 0x24] }.port = (encode (.halt 1)).take 1) := by decide

theorem witness_OverlappingIssueIsRefused :
    0 < 1 ∧ 1 < (encode (.halt 1)).length ∧
    { v5 with port := [.byte 0x24, .frame ⟨.tpdo, 0x185, 8, p0, 0, 0⟩] }.port =
      (encode (.halt 1)).take 1 ++ .frame ⟨.tpdo, 0x185, 8, p0, 0, 0⟩ :: [] := by decide

theorem witness_UnassignedOpcodeIsIllegal :
    Ready v5 ∧ (∀ op ∈ [(0x00 : Byte), 0x07, 0x0C, 0x25, 0x3A, 0xFF], op ∉ assignedOpcodes) ∧
    { v5 with port := [.byte 0x07] }.port = .byte 0x07 :: [] := by decide

theorem witness_IllegalOpExactlyForIllegalForms :
    Ready v5 ∧ IllegalForm (.execute 2 0) ∧ IllegalForm (.halt 0x80) ∧ IllegalForm (.readReg 0x0B) ∧
    IllegalForm (.readReg 0x0F) ∧ IllegalForm (.readReg 0x16) ∧ IllegalForm (.writeConfig 0x0B 0) ∧
    ¬ IllegalForm (.execute 1 0) ∧ ¬ IllegalForm (.readReg 0x10) ∧ ¬ IllegalForm (.readReg 0x15) ∧
    Answers (.readReg 0x15) v5 := by
  refine ⟨by decide, ?_, ?_, ?_, ?_, ?_, ?_, ?_, ?_, ?_, ⟨_, rfl⟩⟩ <;> simp [IllegalForm]

theorem witness_NothingRunsBeforeFirstReset :
    unreset.initialised = false ∧ ¬ IsReset .getPosition := ⟨rfl, fun h => h⟩

/-- A violation of a ready block, one of a refused RESET, and the latch kept by another operation. -/
theorem witness_ContractViolationOnlyLatches :
    (Ready v5 ∧ (exec (.readReg 0x16) v5 = .next (v5.violated .illegalOp 0x1B)) ∧
      violationCode (v5.violated .illegalOp 0x1B).response.status = some 0x1B) ∧
    (IsReset (.reset 128 0 0 0 0 0 0 0 0 0 0 0) ∧ sees (.reset 128 0 0 0 0 0 0 0 0 0 0 0) unreset
      (fun t => violationCode t.response.status) = some (some 0x1A)) ∧
    (¬ IsReset .setUndefined ∧ Answers .setUndefined { v5 with cvLatched := true } ∧
      { v5 with cvLatched := true }.cvLatched = true) :=
  ⟨⟨by decide, rfl, rfl⟩, ⟨trivial, by decide⟩, fun h => h, ⟨_, rfl⟩, rfl⟩

theorem witness_FaultStopsTheBlock :
    (Ready legacyAmps ∧ LegacyAmps legacyAmps ∧ legacyAmps.telem = .telemetryPresent ∧
      ¬ HealthTimedOut legacyAmps 149999 ∧ RpdoDue legacyAmps 149999 (legacyAmps.tieDraws + 1)) ∧
    (stopped.initialised = true ∧ stopped.faulted = true ∧ ¬ IsReset .getPosition) ∧
    (0xFF ∉ assignedOpcodes ∧ { stopped with port := [.byte 0xFF] }.port = .byte 0xFF :: []) :=
  ⟨by decide, ⟨rfl, rfl, fun h => h⟩, by decide⟩

theorem witness_NoOperationBlocks : stopped.initialised = true ∧ v5.initialised = true := ⟨rfl, rfl⟩

theorem witness_WellFormedMeansNoArgumentViolation :
    Ready v5 ∧
    (Answers (.sdoWrite 127 0 0 4 0) v5 ∧ (.sdoWrite 127 0 0 4 0 : Instr).wellFormed = true) ∧
    (Answers (.sdoWrite 128 0 0 4 0) v5 ∧ (.sdoWrite 128 0 0 4 0 : Instr).wellFormed = false) :=
  ⟨by decide, ⟨⟨_, rfl⟩, by decide⟩, ⟨_, rfl⟩, by decide⟩

theorem witness_PayloadFieldsAreLittleEndian :
    (4 + 4 ≤ 8 ∧ 3 < 4 ∧ 3 < 8 ∧ (3 < 4 ∨ 4 + 4 ≤ 3)) ∧ (0 + 2 ≤ 8 ∧ 2 < 8 ∧ (2 < 0 ∨ 0 + 2 ≤ 2)) := by decide

theorem witness_SdoWriteSendsFrame :
    Ready v5 ∧ 127 < (128 : Byte).toNat ∧ (127 : Byte).toNat ≤ 127 ∧
    (∀ w ∈ [(0 : Byte), 3, 5], w ≠ 1 ∧ w ≠ 2 ∧ w ≠ 4) := by decide

theorem witness_SdoReadReqSendsFrame :
    Ready l3 ∧ 127 < (255 : Byte).toNat ∧ (0 : Byte).toNat ≤ 127 ∧
    (∀ w ∈ [(0 : Byte), 3, 5], w ≠ 1 ∧ w ≠ 2 ∧ w ≠ 4) ∧
    (∀ c ∈ [((1 : Byte), (0x4F : Byte)), (2, 0x4B), (4, 0x43)],
      (c.1 = 1 ∧ c.2 = 0x4F) ∨ (c.1 = 2 ∧ c.2 = 0x4B) ∨ (c.1 = 4 ∧ c.2 = 0x43)) :=
  ⟨by decide, by decide, by decide, by decide, by simp⟩

/-- Sums 0x800 and 0x7FF, widths beside the legal ones, offsets 1, 2, 8 − w and 9 − w. -/
theorem witness_RpdoSendChecksThenSends :
    Ready v5 ∧ 127 < (128 : Byte).toNat ∧
    ((127 : Byte).toNat ≤ 127 ∧ 0x7FF < (0x781 : U16).toNat + (127 : Byte).toNat) ∧
    ((0x780 : U16).toNat + (127 : Byte).toNat ≤ 0x7FF) ∧
    (∀ w ∈ [(0 : Byte), 3, 5], w ≠ 1 ∧ w ≠ 2 ∧ w ≠ 4) ∧
    (∀ c ∈ [((1 : Byte), (1 : Byte)), (8, 1), (7, 2), (5, 4)],
      (c.2 = 1 ∨ c.2 = 2 ∨ c.2 = 4) ∧ (c.1.toNat < 2 ∨ 8 < c.1.toNat + c.2.toNat)) ∧
    (∀ c ∈ [((2 : Byte), (1 : Byte)), (7, 1), (6, 2), (4, 4)],
      (c.2 = 1 ∨ c.2 = 2 ∨ c.2 = 4) ∧ 2 ≤ c.1.toNat ∧ c.1.toNat + c.2.toNat ≤ 8) :=
  ⟨by decide, by decide, by decide, by decide, by decide, by simp, by simp⟩

theorem witness_CobIdDecomposes :
    Ready v5 ∧ 0x7FF < (0x800 : U16).toNat ∧ (0x7FF : U16).toNat ≤ 0x7FF := by decide

theorem witness_SdoFieldsReadAtFixedOffsets : Ready l7e := by decide

theorem witness_ByteFieldOperations : Ready v5 ∧ (0x1234 : U16) = (0x12 : Byte) ++ (0x34 : Byte) := by decide

theorem witness_SdoRoundTrip :
    Ready v5 ∧ (127 : Byte).toNat ≤ 127 ∧ (∀ w ∈ [(1 : Byte), 2, 4], w = 1 ∨ w = 2 ∨ w = 4) ∧
    (Instr.sdoWrite 127 0x1018 1 4 9 = .sdoWrite 127 0x1018 1 4 9 ∨
      Instr.sdoWrite 127 0x1018 1 4 9 = .sdoReadReq 127 0x1018 1 4) ∧
    (Instr.sdoReadReq 127 0x1018 1 4 = .sdoWrite 127 0x1018 1 4 9 ∨
      Instr.sdoReadReq 127 0x1018 1 4 = .sdoReadReq 127 0x1018 1 4) ∧
    (0x7FF : U16).toNat ≤ 2047 := by decide

/-- Two states with different registers and the same draw. -/
theorem witness_CodecIsIndependentOfController :
    (IsCodec (.sdoReadReq 0 0 0 4) ∧ Ready v5 ∧ Ready legacyAmps ∧ v5.sendDraws = legacyAmps.sendDraws ∧
      Answers (.sdoReadReq 0 0 0 4) v5 ∧ Answers (.sdoReadReq 0 0 0 4) legacyAmps) ∧
    (((1 : Byte) = 1 ∧ (0x2F : Byte) = 0x2F ∧ (0x4F : Byte) = 0x4F) ∨
      ((1 : Byte) = 2 ∧ (0x2F : Byte) = 0x2B ∧ (0x4F : Byte) = 0x4B) ∨
      ((1 : Byte) = 4 ∧ (0x2F : Byte) = 0x23 ∧ (0x4F : Byte) = 0x43)) ∧
    ((0x7FF : U16).toNat ≤ 0x7FF ∧ 2 ≤ (2 : Byte).toNat ∧ (7 : Byte).toNat + (1 : Byte).toNat ≤ 8 ∧
      (4 : Byte).toNat + (4 : Byte).toNat ≤ 8) :=
  ⟨⟨trivial, by decide, by decide, rfl, ⟨_, rfl⟩, ⟨_, rfl⟩⟩, .inl ⟨rfl, rfl, rfl⟩, by decide⟩

/-- More than, exactly and less than the interval, and a time before the start. -/
theorem witness_TimerExpiryFollowsElapsedTime :
    ((40000 : U64).toNat ≤ (50001 : U64).toNat ∧
      (40000 : U64).toNat + (10000 : U32).toNat < (50001 : U64).toNat ∧
      (40000 : U64).toNat + (10000 : U32).toNat = (50000 : U64).toNat ∧
      (49999 : U64).toNat < (40000 : U64).toNat + (10000 : U32).toNat) ∧
    ((39999 : U64).toNat < (40000 : U64).toNat ∧ (10000 : U32) ≠ 0) := by simp

theorem witness_TelemetryLossTicks :
    Ready v5 ∧ Ready (ticking v5 .speed 9) ∧ (ticking v5 .speed 9).telem = .telemetryPresent ∧
    HealthTimedOut (ticking v5 .speed 9) 150001 :=
  ⟨by decide, by decide, rfl, by decide⟩

theorem witness_TickSendsPeriodicCommand :
    (Ready v5 ∧ v5.telem = .noTelemetry) ∧
    (Ready present ∧ present.telem = .telemetryPresent ∧ ¬ HealthTimedOut present 49999 ∧
      ¬ RpdoDue present 49999 (present.tieDraws + 1)) ∧
    (Ready (ticking l3 .undefined 9) ∧ (ticking l3 .undefined 9).telem = .telemetryPresent ∧
      ¬ HealthTimedOut (ticking l3 .undefined 9) 50001 ∧
      RpdoDue (ticking l3 .undefined 9) 50001 ((ticking l3 .undefined 9).tieDraws + 1) ∧
      (ticking l3 .undefined 9).mode = .undefined) ∧
    (¬ HealthTimedOut present 149999 ∧ RpdoDue present 149999 (present.tieDraws + 1) ∧
      commandFrame present.cfg present.mode present.setpoint =
        some ⟨0x205, ⟨0x21, 0, 0x84, 0x03, 0, 0, 0, 0⟩⟩) ∧
    HealthTimedOut present 150001 :=
  ⟨⟨by decide, rfl⟩, ⟨by decide, rfl, by decide, by decide⟩,
    ⟨by decide, rfl, by decide, by decide, rfl⟩, ⟨by decide, by decide, by decide⟩, by decide⟩

theorem witness_EncoderProducesWireFrames :
    v5.mode = .undefined ∧
    ((ticking l3 .position 9).mode = .position ∧ l3.cfg.protocol = .legacy) ∧
    ((ticking l7e .speed 9).mode = .speed ∧ l7e.cfg.protocol = .legacy ∧ l7e.cfg.encoderPresent = true) ∧
    ((ticking l3 .speed 9).mode = .speed ∧ l3.cfg.encoderPresent = false) ∧
    v5.cfg.protocol = .canopenV2 ∧ (ticking v5 .amps 9).mode = .amps := by decide

/-- Both limits and the values next to them. -/
theorem witness_SetPositionValidates :
    Ready v5 ∧ (v5.cfg.posMin.toNat ≤ (0 : U16).toNat ∧ (0 : U16).toNat ≤ v5.cfg.posMax.toNat) ∧
    (v5.cfg.posMin.toNat ≤ (1000 : U16).toNat ∧ (1000 : U16).toNat ≤ v5.cfg.posMax.toNat) ∧
    ¬ (v5.cfg.posMin.toNat ≤ (1001 : U16).toNat ∧ (1001 : U16).toNat ≤ v5.cfg.posMax.toNat) :=
  ⟨by decide, by decide, by decide, by decide⟩

theorem witness_SetSpeedValidates :
    Ready v5 ∧ (v5.cfg.speedMin.toInt ≤ (0xFC18 : U16).toInt ∧ (0xFC18 : U16).toInt ≤ v5.cfg.speedMax.toInt) ∧
    (v5.cfg.speedMin.toInt ≤ (1000 : U16).toInt ∧ (1000 : U16).toInt ≤ v5.cfg.speedMax.toInt) ∧
    ¬ (v5.cfg.speedMin.toInt ≤ (0xFC17 : U16).toInt ∧ (0xFC17 : U16).toInt ≤ v5.cfg.speedMax.toInt) ∧
    ¬ (v5.cfg.speedMin.toInt ≤ (1001 : U16).toInt ∧ (1001 : U16).toInt ≤ v5.cfg.speedMax.toInt) :=
  ⟨by decide, by decide, by decide, by decide, by decide⟩

theorem witness_SetAmpsValidates :
    (Ready l3 ∧ l3.cfg.protocol = .legacy) ∧ (Ready v5 ∧ v5.cfg.protocol = .canopenV2) ∧
    (v5.cfg.ampsMin.toInt ≤ (0xFE0C : U16).toInt ∧ (0xFE0C : U16).toInt ≤ v5.cfg.ampsMax.toInt) ∧
    (v5.cfg.ampsMin.toInt ≤ (500 : U16).toInt ∧ (500 : U16).toInt ≤ v5.cfg.ampsMax.toInt) ∧
    ¬ (v5.cfg.ampsMin.toInt ≤ (0xFE0B : U16).toInt ∧ (0xFE0B : U16).toInt ≤ v5.cfg.ampsMax.toInt) ∧
    ¬ (v5.cfg.ampsMin.toInt ≤ (501 : U16).toInt ∧ (501 : U16).toInt ≤ v5.cfg.ampsMax.toInt) :=
  ⟨by decide, by decide, by decide, by decide, by decide, by decide⟩

theorem witness_SetUndefinedKeepsSetpoint : Ready (ticking v5 .speed 100) := by decide

theorem witness_HaltNeutralizesAndEmits :
    Ready present ∧ (haltTarget (ticking v5 .position 9)).1 = .undefined ∧
    commandFrame present.cfg (haltTarget present).1 (haltTarget present).2 =
      some ⟨0x205, ⟨0x21, 0, 0xF4, 0x01, 0, 0, 0, 0⟩⟩ := by decide

theorem witness_FramesForOthersAreNotConsumed :
    (Ready v5 ∧ (8 : Byte).toNat ≤ 8 ∧ (0x7FF : U16).toNat ≤ 0x7FF ∧
      (0x186 : U16).toNat % 128 ≠ v5.cfg.nodeId.toNat ∧ (0x185 : U16).toNat % 128 = v5.cfg.nodeId.toNat ∧
      (0x605 : U16).toNat / 128 ∉ [3, 5, 7, 9] ∧ State.reset.cfg.nodeId = 0) ∧
    (Ready State.reset ∧ ¬ AddressedTo v5 6 ∧ ¬ AddressedTo State.reset 0 ∧
      Instr.tpdoPrimary 6 8 p0 0 0 ∈ [Instr.tpdoPrimary 6 8 p0 0 0, .tpdoSecondary 6 8 p0 0 0,
        .tpdoTertiary 6 8 p0 0 0, .tpdoQuaternary 6 8 p0 0 0]) := by decide

theorem witness_ReceivedFrameIsCheckedFirst :
    Ready v5 ∧ 8 < (9 : Byte).toNat ∧ (8 : Byte).toNat ≤ 8 ∧ 0x7FF < (0x800 : U16).toNat := by decide

/-- Bits 14 to 8 all zero with bit 15 set, and the lowest of them set, by RX_FRAME and by the wire row. -/
theorem witness_PrimaryV2Telemetry :
    Ready v5 ∧ AddressedTo v5 5 ∧ v5.cfg.protocol = .canopenV2 ∧
    Delivers (.rxFrame 0x185 8 ⟨1, 0x80, 2, 3, 4, 5, 6, 7⟩ 0 9) 0x180 .tpdoPrimary 5 8 ⟨1, 0x80, 2, 3, 4, 5, 6,
      7⟩ 0 9 ∧
    Delivers (.tpdoPrimary 5 8 ⟨1, 1, 2, 3, 4, 5, 6, 7⟩ 0 9) 0x180 .tpdoPrimary 5 8 ⟨1, 1, 2, 3, 4, 5, 6,
      7⟩ 0 9 ∧
    (0x80 : Byte).toNat % 128 = 0 ∧ (1 : Byte).toNat % 128 ≠ 0 :=
  ⟨by decide, by decide, rfl, .inl rfl, .inr rfl, by decide, by decide⟩

theorem witness_PrimaryLegacyTelemetry :
    (Ready l7e ∧ AddressedTo l7e 7 ∧ l7e.cfg.protocol = .legacy ∧ l7e.cfg.encoderPresent = true ∧
      Delivers (.rxFrame 0x187 8 p0 0 9) 0x180 .tpdoPrimary 7 8 p0 0 9) ∧
    (Ready l3 ∧ AddressedTo l3 3 ∧ l3.cfg.protocol = .legacy ∧ l3.cfg.encoderPresent = false ∧
      Delivers (.tpdoPrimary 3 8 p0 0 9) 0x180 .tpdoPrimary 3 8 p0 0 9) :=
  ⟨⟨by decide, by decide, rfl, rfl, .inl rfl⟩, by decide, by decide, rfl, rfl, .inr rfl⟩

theorem witness_ShortFramesChangeNothing :
    Ready v5 ∧ AddressedTo v5 5 ∧ (7 : Byte).toNat < 8 ∧
    Delivers (.rxFrame 0x185 7 p0 0 9) 0x180 .tpdoPrimary 5 7 p0 0 9 ∧
    (Delivers (.rxFrame 0x285 7 p0 0 9) 0x280 .tpdoSecondary 5 7 p0 0 9 ∧
      ¬ (v5.cfg.protocol = .legacy ∧ v5.cfg.encoderPresent = false)) ∧
    Delivers (.tpdoTertiary 5 7 p0 0 9) 0x380 .tpdoTertiary 5 7 p0 0 9 ∧
    Delivers (.rxFrame 0x485 7 p0 0 9) 0x480 .tpdoQuaternary 5 7 p0 0 9 :=
  ⟨by decide, by decide, by decide, .inl rfl, ⟨.inl rfl, by decide⟩, .inr rfl, .inl rfl⟩

theorem witness_SecondaryChannel :
    (Ready l3 ∧ AddressedTo l3 3 ∧ (0 : Byte).toNat ≤ 8 ∧ l3.cfg.protocol = .legacy ∧
      l3.cfg.encoderPresent = false ∧
      Delivers (.rxFrame 0x283 0 p0 0 9) 0x280 .tpdoSecondary 3 0 p0 0 9) ∧
    (Ready l7e ∧ AddressedTo l7e 7 ∧ (8 : Byte).toNat ≤ 8 ∧ l7e.cfg.protocol = .legacy ∧
      l7e.cfg.encoderPresent = true ∧ (7 : Byte) ≠ 8 ∧
      Delivers (.tpdoSecondary 7 8 p0 0 9) 0x280 .tpdoSecondary 7 8 p0 0 9 ∧
      Delivers (.tpdoSecondary 7 7 p0 0 9) 0x280 .tpdoSecondary 7 7 p0 0 9) ∧
    (Ready v5 ∧ AddressedTo v5 5 ∧ v5.cfg.protocol = .canopenV2 ∧
      Delivers (.rxFrame 0x285 8 p0 0 9) 0x280 .tpdoSecondary 5 8 p0 0 9) :=
  ⟨⟨by decide, by decide, by decide, rfl, rfl, .inl rfl⟩,
    ⟨by decide, by decide, by decide, rfl, rfl, by decide, .inr rfl, .inr rfl⟩,
    by decide, by decide, rfl, .inl rfl⟩

theorem witness_TertiaryChannel :
    (Ready l3 ∧ AddressedTo l3 3 ∧ (8 : Byte).toNat ≤ 8 ∧ l3.cfg.protocol = .legacy ∧
      Delivers (.rxFrame 0x383 8 p0 0 9) 0x380 .tpdoTertiary 3 8 p0 0 9) ∧
    (¬ (l3.cfg.protocol = .legacy ∧ (7 : Byte) = 8) ∧
      Delivers (.tpdoTertiary 3 7 p0 0 9) 0x380 .tpdoTertiary 3 7 p0 0 9) ∧
    (Ready v5 ∧ AddressedTo v5 5 ∧ ¬ (v5.cfg.protocol = .legacy ∧ (8 : Byte) = 8) ∧
      Delivers (.rxFrame 0x385 8 p0 0 9) 0x380 .tpdoTertiary 5 8 p0 0 9) :=
  ⟨⟨by decide, by decide, by decide, rfl, .inl rfl⟩, ⟨by decide, .inr rfl⟩,
    by decide, by decide, by decide, .inl rfl⟩

theorem witness_QuaternaryChannel :
    Ready v5 ∧ AddressedTo v5 5 ∧ (8 : Byte).toNat ≤ 8 ∧
    Delivers (.rxFrame 0x485 8 p0 0 9) 0x480 .tpdoQuaternary 5 8 p0 0 9 ∧
    Delivers (.tpdoQuaternary 5 0 p0 0 9) 0x480 .tpdoQuaternary 5 0 p0 0 9 :=
  ⟨by decide, by decide, by decide, .inl rfl, .inr rfl⟩

theorem witness_GettersAnswerWrittenFields :
    (Ready present ∧ present.telem = .telemetryPresent ∧
      ¬ (present.cfg.protocol = .legacy ∧ present.cfg.encoderPresent = false) ∧ present.snap.wPosition = true ∧
      present.snap.wSpeed = true ∧ present.cfg.protocol = .canopenV2 ∧ present.snap.wAmps = true ∧
      present.snap.wStatus = true) ∧
    (Ready { ticking l3 .speed 9 with snap := { Snapshot.cleared with wLegacyFs := true } } ∧
      l3.cfg.protocol = .legacy ∧ { Snapshot.cleared with wLegacyFs := true }.wLegacyFs = true) := by decide

theorem witness_GettersRefuseOtherwise :
    (Ready v5 ∧ v5.telem = .noTelemetry ∧
      Instr.getLegacyFaultStatus ∈ [Instr.getPosition, .getSpeed, .getAmps, .getStatusWord,
        .getLegacyFaultStatus]) ∧
    (Ready (ticking v5 .speed 9) ∧ (ticking v5 .speed 9).telem = .telemetryPresent ∧
      (ticking v5 .speed 9).snap = Snapshot.cleared) ∧
    (l3.cfg.protocol = .legacy ∧ l3.cfg.encoderPresent = false) ∧ v5.cfg.protocol = .canopenV2 := by decide

/-- The first and last number of each assigned range, and the numbers beside them. -/
theorem witness_ReadRegReadsEachRegister :
    Ready present ∧ ((0x00, 5) : Byte × U32) ∈ registerMap present ∧ (0x0A, 500) ∈ registerMap present ∧
    (0x10, 1) ∈ registerMap present ∧ (0x15, 0) ∈ registerMap present ∧
    (∀ r ∈ [(0x0B : Byte), 0x0F, 0x16, 0xFF], r ∉ (registerMap present).map (·.1)) := by decide

theorem witness_WriteConfigWritesOneRegister :
    Ready (ticking v5 .amps 9) ∧ 0x0A < (0x0B : Byte).toNat ∧
    ¬ LegalConfig 0x00 128 ∧ ¬ LegalConfig 0x01 2 ∧ ¬ LegalConfig 0x02 2 ∧ ¬ LegalConfig 0x05 0x10000 ∧
    ¬ LegalConfig 0x0A 0x10000 ∧ (ticking v5 .amps 9).mode = .amps ∧
    LegalConfig 0x00 127 ∧ LegalConfig 0x01 1 ∧ LegalConfig 0x02 0 ∧ LegalConfig 0x03 0xFFFFFFFF ∧
    LegalConfig 0x04 0xFFFFFFFF ∧ LegalConfig 0x0A 0xFFFF ∧
    ¬ ((0x01 : Byte) = 0x01 ∧ (1 : U32) = 0 ∧ (ticking v5 .amps 9).mode = .amps) ∧
    ¬ ((0x00 : Byte) = 0x00 ∧ (127 : U32) = 0) := by
  simp [LegalConfig, Ready, ticking, v5, State.reset]

theorem witness_ResetSetsEveryRegister :
    (127 < (128 : Byte).toNat ∧ 1 < (2 : Byte).toNat) ∧ (127 : Byte).toNat ≤ 127 ∧
      (1 : Byte).toNat ≤ 1 := by decide

theorem witness_WireRowsSendTheirFrame :
    Ready v5 ∧ encode (.v2CmdAmps 9 0xFED4) =
      [.frame ⟨.rpdoV2, 0x209, 8, ⟨0x01, 0, 0, 0, 0, 0, 0xD4, 0xFE⟩, 0, 0⟩] ∧
        WireFormat.rpdoV2 ≠ .tpdo := by decide

/-- A state with telemetry that meets the invariant, and an instruction at its port. -/
theorem witness_StepKeepsBlockInvariant :
    BlockInvariant { present with port := [.byte 0x23] } ∧
    ∃ t, step { present with port := [.byte 0x23] } = .next t :=
  ⟨by constructor <;> simp [present, afterRx1, ticking, v5, limits, LegacyAmps, State.reset], ⟨_, rfl⟩⟩

theorem witness_ConfigurationOnlyByHostWrites :
    ¬ IsReset (.halt 1) ∧ (∀ reg value, Instr.halt 1 ≠ .writeConfig reg value) ∧ Answers (.halt 1) present :=
  ⟨fun h => h, nofun, ⟨_, rfl⟩⟩

theorem witness_OnlyFullPrimaryIsProofOfLife :
    (Ready v5 ∧ IsFullPrimary v5 (.rxFrame 0x185 8 p0 0 9) 9 ∧ IsFullPrimary v5 (.tpdoPrimary 5 8 p0 0 9) 9) ∧
    (Ready present ∧ Answers .getPosition present ∧ (∀ nowUs, ¬ IsFullPrimary present .getPosition nowUs) ∧
      ¬ IsReset .getPosition) :=
  ⟨⟨by decide, ⟨5, p0, 0, by decide, .inl rfl⟩, ⟨5, p0, 0, by decide, .inr rfl⟩⟩,
    by decide, ⟨_, rfl⟩, fun _ ⟨_, _, _, _, h⟩ => by simp [Delivers] at h, fun h => h⟩

theorem witness_AtMostOneFramePerOperation : ¬ IsReset (.halt 1) ∧ Answers (.halt 1) present :=
  ⟨fun h => h, ⟨_, rfl⟩⟩

/-- Unlatched with and without a violation, and latched. -/
theorem witness_FirstViolationStaysLatched :
    ¬ IsReset (.readReg 0x16) ∧ Answers (.readReg 0x16) v5 ∧ Answers (.readReg 0x15) v5 ∧ v5.cvLatched = false ∧
    Answers (.readReg 0x16) { v5 with cvLatched := true, cvFirstCode := 0x10 } :=
  ⟨fun h => h, ⟨_, rfl⟩, ⟨_, rfl⟩, rfl, ⟨_, rfl⟩⟩

theorem witness_SnapshotSurvivesTelemetryLoss :
    ¬ IsReset (.execute 0 9) ∧ (∀ c l p t n, Instr.execute 0 9 ≠ .rxFrame c l p t n) ∧
    (∀ k l p t n, Instr.execute 0 9 ≠ .tpdoPrimary k l p t n ∧ Instr.execute 0 9 ≠ .tpdoSecondary k l p t n ∧
      Instr.execute 0 9 ≠ .tpdoTertiary k l p t n) ∧ Answers (.execute 0 9) present :=
  ⟨fun h => h, nofun, fun _ _ _ _ _ => ⟨nofun, nofun, nofun⟩, ⟨_, rfl⟩⟩

theorem witness_SetpointOnlyBySettersAndHalt :
    ¬ IsReset .setUndefined ∧ (∀ v, Instr.setUndefined ≠ .setPosition v ∧ Instr.setUndefined ≠ .setSpeed v ∧
      Instr.setUndefined ≠ .setAmps v) ∧ (∀ flags, Instr.setUndefined ≠ .halt flags) ∧
    Answers .setUndefined present :=
  ⟨fun h => h, fun _ => ⟨nofun, nofun, nofun⟩, nofun, ⟨_, rfl⟩⟩

theorem witness_FaultAckCountMoves :
    Answers (.rxFrame 0x185 8 ⟨0, 1, 0, 0, 0, 0, 0, 0⟩ 0 9) { present with faultAckCount := 0xFFFFFFFF } ∧
    Answers (.execute 0 9) present := ⟨⟨_, rfl⟩, ⟨_, rfl⟩⟩

theorem witness_RpdoTimerRestartedOnlyByTick :
    ¬ IsReset (.execute 1 60000) ∧ Answers (.execute 1 60000) present ∧ Answers (.halt 1) present :=
  ⟨fun h => h, ⟨_, rfl⟩, ⟨_, rfl⟩⟩

/-- The last microsecond before the interval has passed, with telemetry, without it, and after a RESET with
telemetry received and a mode set in between. -/
theorem witness_NoTickSendsBeforeInterval :
    (Ready present ∧ present.telem = .telemetryPresent ∧ (1 : Byte).toNat < 2 ∧
      0 < present.cfg.rpdoIntervalUs.toNat ∧
      (49999 : U64).toNat < present.rpdoStart.toNat + present.cfg.rpdoIntervalUs.toNat) ∧
    (Ready v5 ∧ v5.telem = .noTelemetry) ∧
    (∃ t u, exec (.reset 5 1 1 10000 100000 0 1000 0xFC18 1000 0xFE0C 500 7) unreset = .next t ∧
      t.response.status = .ok ∧ 0 < (10000 : U32).toNat ∧
      Runs t [.rxFrame 0x185 8 p0 0 8, .setPosition 500, .execute 1 10006] u ∧ u.mode = .position ∧
      (∀ i ∈ [Instr.rxFrame 0x185 8 p0 0 8, .setPosition 500, .execute 1 10006], ¬ IsReset i ∧
        (∀ value, i ≠ .writeConfig 0x03 value) ∧
        ∀ f n, i = .execute f n → n.toNat < (7 : U64).toNat + (10000 : U32).toNat) ∧
      (10006 : U64).toNat < (7 : U64).toNat + (10000 : U32).toNat) :=
  ⟨⟨by decide, rfl, by decide, by decide, by decide⟩, ⟨by decide, rfl⟩,
    _, _, rfl, rfl, by decide, ⟨_, rfl, _, rfl, _, rfl, rfl⟩, by decide, by simp, by decide⟩

end Sys2Proof.Tests
end

section

/-! Payload fields are little-endian (O13, R12). -/

open Sys2Proof Sys2Proof.Machine

namespace Sys2Proof.Proofs.PayloadFields

/-- `memRead`'s recursion, unrolled to the sum R12 writes. -/
theorem memRead_eq_sum (p : Payload) (off n : Nat) :
    memRead p off n = ((List.range n).map fun k => (byteAt p (off + k)).toNat * 256 ^ k).sum := by
  induction n with
  | zero => rfl
  | succ n ih => simp [memRead, ih, List.range_succ]

/-- A field whose bytes are the base-256 digits of `x` reads as `x` cut to the field's width. -/
theorem memRead_of_digits {p : Payload} {off n x : Nat}
    (h : ∀ k < n, (byteAt p (off + k)).toNat = x >>> (8 * k) % 256) :
    memRead p off n = x % 256 ^ n := by
  induction n with
  | zero => simp [memRead, Nat.mod_one]
  | succ n ih =>
    have hbyte : (byteAt p (off + n)).toNat = x / 256 ^ n % 256 := by
      rw [h n n.lt_succ_self, Nat.shiftRight_eq_div_pow, Nat.pow_mul]
    have hlow : memRead p off n = x % 256 ^ n := ih fun k hk => h k (hk.trans n.lt_succ_self)
    rw [memRead, hlow, hbyte, Nat.mod_pow_succ, Nat.mul_comm]

/-- Byte `k` of a written field is digit `k` of the value. -/
theorem byteAt_memWrite_inside (p : Payload) {off n k : Nat} (v : U32) (hfit : off + n ≤ 8) (hk : k < n) :
    (byteAt (memWrite p off n v) (off + k)).toNat = v.toNat >>> (8 * k) % 256 := by
  rw [byteAt_memWrite p off n v (by omega), if_pos (by omega), Nat.add_sub_cancel_left]
  simp

theorem byteAt_memWrite_outside (p : Payload) {off n j : Nat} (v : U32) (hj : j < 8)
    (hout : j < off ∨ off + n ≤ j) : byteAt (memWrite p off n v) j = byteAt p j := by
  rw [byteAt_memWrite p off n v hj, if_neg (by omega)]

/-- Settles O13: the read-back follows from the written bytes being the digits of the value. -/
theorem payloadFieldsAreLittleEndian : Obligations.PayloadFieldsAreLittleEndian := by
  intro p off n hfit
  refine ⟨memRead_eq_sum p off n, fun v => ?_⟩
  have hbytes : ∀ k < n, (byteAt (memWrite p off n v) (off + k)).toNat = v.toNat >>> (8 * k) % 256 :=
    fun k hk => byteAt_memWrite_inside p v hfit hk
  exact ⟨hbytes, fun j hj hout => byteAt_memWrite_outside p v hj hout, memRead_of_digits hbytes⟩

end Sys2Proof.Proofs.PayloadFields
end

section

/-! The host alone writes the configuration registers (O48, R19). -/

open Sys2Proof Sys2Proof.Machine

namespace Sys2Proof.Proofs.Configuration

theorem tickPrefix_cfg {s s' : State} (h : TickPrefix s s') : s'.cfg = s.cfg := by
  cases h with
  | kept | lost => rfl

theorem neutralized_cfg {s s' : State} (h : Neutralized s s') : s'.cfg = s.cfg := by
  cases h with
  | undefined | setpoint | same => rfl

theorem parseLegacyPrimary_cfg (p : Payload) (s : State) : (parseLegacyPrimary p s).cfg = s.cfg := by
  unfold parseLegacyPrimary
  split <;> rfl

/-- Settles O48, going through every next state an instruction has: only RESET and WRITE_CONFIG reach one with
other configuration registers. -/
theorem configurationOnlyByHostWrites : Obligations.ConfigurationOnlyByHostWrites := by
  intro s t i hreset hwrite hexec
  cases exec_nextState hexec with
  | fault | answer | violation | send | setpoint | setUndefined => rfl
  | tickEnd _ _ now _ _ _ hp => exact (checkAndRestartRpdo_cfg now _).trans (tickPrefix_cfg hp)
  | tickSend _ _ now | tickUnreachable _ _ now => exact checkAndRestartRpdo_cfg now _
  | haltEnd _ _ _ _ _ hn | haltSend _ _ _ _ _ _ _ hn | haltUnreachable _ _ _ _ hn =>
    simpa using neutralized_cfg hn
  | v2 | v2Ack | secondary | tertiary => rfl
  | legacy _ _ _ p => exact parseLegacyPrimary_cfg p s
  | unconfigure _ hi | writeConfig _ _ _ hi => exact absurd hi (hwrite _ _)
  | resetRefused hr | reset hr => exact absurd hr hreset

end Sys2Proof.Proofs.Configuration
end

section

/-! What ends in ILLEGAL_OP: the unassigned opcodes (O6, R82), and the illegal forms of instructions and nothing
else (O7, R83, R189). -/

open Sys2Proof Sys2Proof.Machine

namespace Sys2Proof.Proofs.IllegalOp

/-! ## Unassigned opcodes -/

/-- The decoder's opcode map has no row beside the 25 opcodes of R81. -/
theorem decodeHost_of_not_assigned {op : Byte} (h : op ∉ assignedOpcodes) (rest : List PortItem) :
    decodeHost op rest = .error (.unassignedOpcode op rest) := by
  unfold decodeHost
  split
  case h_26 => rfl
  all_goals
    next hop => simp [assignedOpcodes, ← BitVec.toNat_inj, hop] at h

set_option maxRecDepth 4000 in
/-- 231 opcodes are left beside the 25 of R81. -/
theorem count_not_assigned :
    ((List.range 256).filter fun n => decide (BitVec.ofNat 8 n ∉ assignedOpcodes)).length = 231 := by
  decide

theorem step_of_not_assigned {s : State} {op : Byte} {rest : List PortItem} (hop : op ∉ assignedOpcodes)
    (hport : s.port = .byte op :: rest) :
    step s = guarded (raiseContractViolation .illegalOp) { s with port := rest } := by
  simp only [step, hport, decode, decodeHost_of_not_assigned hop, undecoded]

/-- Settles O6: an opcode outside the map reaches the port's illegal-opcode arm, whose body in a ready state is
the violation alone. -/
theorem unassignedOpcodeIsIllegal : Obligations.UnassignedOpcodeIsIllegal := by
  refine ⟨count_not_assigned, fun s op rest hready hop hport => ⟨rest, ?_⟩⟩
  exact (step_of_not_assigned hop hport).trans (guarded_of_ready hready)

/-! ## Illegal forms -/

theorem exec_of_illegalForm {i : Instr} {s : State} (hready : Ready s) (hi : IllegalForm i) :
    exec i s = .next (s.violated .illegalOp 0x1B) := by
  obtain ⟨flags, now, rfl, hflags⟩ | ⟨flags, rfl, hflags⟩ | ⟨reg, rfl, hreg⟩ | ⟨reg, value, rfl, hreg⟩ := hi
  · simp only [exec, execExecute]
    rw [guarded_of_ready hready, if_pos ((reservedFlagSet_iff flags).2 hflags)]
    rfl
  · simp only [exec, execHalt]
    rw [guarded_of_ready hready, if_pos ((reservedFlagSet_iff flags).2 hflags)]
    rfl
  · simp only [exec, execReadReg]
    rw [guarded_of_ready hready, (regValue_none_iff reg s).2 hreg]
    rfl
  · have hunassigned : configRegAssigned reg = false := by simpa [configRegAssigned] using hreg
    simp only [exec, execWriteConfig]
    rw [guarded_of_ready hready, writeConfigBody, hunassigned]
    rfl

/-! ## Every other form answers another status

One lemma for each shared operation; the instructions that are one of these operations then follow at once. -/

theorem sendAndRespond_status (cob : CobId) (p : Payload) (s : State) :
    (sendAndRespond cob p s).response.status ≠ .illegalOp := by
  simp [sendAndRespond]

theorem sdoChecked_status (node w : Byte) (cob : CobId) (p : Payload) (s : State) :
    (sdoChecked node w (sendAndRespond cob p) s).response.status ≠ .illegalOp := by
  unfold sdoChecked
  repeat' split
  · simp
  · simp
  · exact sendAndRespond_status _ _ s

theorem rpdoChecked_status (node : Byte) (base : U16) (offset w : Byte) (cob : CobId) (p : Payload) (s : State) :
    (rpdoChecked node base offset w (sendAndRespond cob p) s).response.status ≠ .illegalOp := by
  unfold rpdoChecked
  repeat' split
  case isFalse.isFalse.isFalse.isFalse => exact sendAndRespond_status _ _ s
  all_goals simp

theorem getter_status (provided written : Bool) (value : Result) (s : State) :
    (getter provided written value s).response.status ≠ .illegalOp := by
  cases htelem : s.telem with
  | noTelemetry => simp [getter, htelem]
  | telemetryPresent =>
    rw [getter_cases htelem]
    split <;> simp

theorem emits_status {finish : Option Bool → State → State} {s t : State} (h : Emits finish s t)
    (hfinish : ∀ sent u, (finish sent u).response.status = .ok) : t.response.status ≠ .illegalOp := by
  cases h with
  | none | frame => simp [hfinish]
  | unreachable => simp

theorem tick_status (connected : Bool) (now : U64) (s : State) :
    (tick connected now s).response.status ≠ .illegalOp := by
  obtain ⟨s', loss, -, ⟨r, h⟩ | ⟨-, h⟩⟩ := tick_cases connected now s
  · simp [h]
  · exact emits_status h fun _ _ => rfl

theorem haltBody_status (connected : Bool) (s : State) :
    (haltBody connected s).response.status ≠ .illegalOp := by
  obtain ⟨r, h⟩ | h := haltBody_cases connected s
  · simp [h]
  · exact emits_status h fun _ _ => rfl

theorem ingest_status (c : U16) (l : Byte) (p : Payload) (now : U64) (s : State) :
    (ingest c l p now s).response.status ≠ .illegalOp := by
  have h := ingest_ingested c l p now s
  generalize ingest c l p now s = t at h
  cases h with
  | tooLong | wide | noEncoder => simp
  | answer | v2 | v2Ack | legacy | secondary | tertiary => simp [respondRx]

theorem writeConfigBody_status {reg : Byte} (value : U32) (s : State) (hreg : configRegAssigned reg = true) :
    (writeConfigBody reg value s).response.status ≠ .illegalOp := by
  unfold writeConfigBody
  rw [if_neg (by simp [hreg])]
  dsimp only
  repeat' split
  all_goals simp

/-- Every instruction in a legal form is RESET or guarded, and its body answers another status. -/
theorem exec_guarded_status {i : Instr} (hreset : ¬ IsReset i) (hi : ¬ IllegalForm i) :
    ∃ body : State → State, (∀ s, exec i s = guarded body s) ∧ ∀ s, (body s).response.status ≠ .illegalOp := by
  cases i with
  | reset => exact absurd trivial hreset
  | execute flags now =>
    have hflags : ¬ reservedFlagSet flags = true := by simpa [IllegalForm, reservedFlagSet_iff] using hi
    refine ⟨_, fun _ => rfl, fun s => ?_⟩
    rw [if_neg hflags]
    exact tick_status _ _ _
  | halt flags =>
    have hflags : ¬ reservedFlagSet flags = true := by simpa [IllegalForm, reservedFlagSet_iff] using hi
    refine ⟨_, fun _ => rfl, fun s => ?_⟩
    rw [if_neg hflags]
    exact haltBody_status _ _
  | readReg reg =>
    refine ⟨_, fun _ => rfl, fun s => ?_⟩
    split
    · simp
    next hnone => exact absurd (.inr (.inr (.inl ⟨reg, rfl, (regValue_none_iff reg s).1 hnone⟩))) hi
  | writeConfig reg value =>
    have hreg : configRegAssigned reg = true := by simpa [IllegalForm, configRegAssigned] using hi
    exact ⟨_, fun _ => rfl, fun s => writeConfigBody_status value s hreg⟩
  | sdoWrite | sdoReadReq => exact ⟨_, fun _ => rfl, fun s => sdoChecked_status _ _ _ _ s⟩
  | rpdoSend => exact ⟨_, fun _ => rfl, fun s => rpdoChecked_status _ _ _ _ _ _ s⟩
  | decodeCobId | setPosition | setSpeed =>
    refine ⟨_, fun _ => rfl, fun s => ?_⟩
    split <;> simp [acceptSetpoint]
  | setAmps =>
    refine ⟨_, fun _ => rfl, fun s => ?_⟩
    split
    · simp
    · split <;> simp [acceptSetpoint]
  | getPosition | getSpeed | getAmps | getStatusWord | getLegacyFaultStatus =>
    exact ⟨_, fun _ => rfl, fun s => getter_status _ _ _ s⟩
  | rxFrame | tpdoPrimary | tpdoSecondary | tpdoTertiary | tpdoQuaternary =>
    exact ⟨_, fun _ => rfl, fun s => ingest_status _ _ _ _ s⟩
  | decodeSdoIndex | decodeSdoSubindex | bfHi | bfLo | bfSetHi | bfSetLo | setUndefined =>
    exact ⟨_, fun _ => rfl, fun s => by simp⟩
  | sdoDownload1B | sdoDownload2B | sdoDownload4B | sdoUploadReq1B | sdoUploadReq2B | sdoUploadReq4B
  | v2CmdPosition | v2CmdSpeed | v2CmdAmps | v2FaultAck
  | legacyCmdPosition | legacyCmdSpeedEncoder | legacyCmdSpeedNoEncoder =>
    exact ⟨_, fun _ => rfl, fun s => sendAndRespond_status _ _ s⟩

theorem exec_status_of_not_illegalForm {i : Instr} {s t : State} (hready : Ready s) (hi : ¬ IllegalForm i)
    (h : exec i s = .next t) : t.response.status ≠ .illegalOp := by
  by_cases hreset : IsReset i
  · obtain rfl | ⟨c, now, rfl⟩ := exec_reset_cases hreset h
    · simp
    · simp [resetState]
  · obtain ⟨body, hexec, hstatus⟩ := exec_guarded_status hreset hi
    rw [hexec, guarded_of_ready hready] at h
    cases h
    exact hstatus s

/-- Settles O7: the checks that come first raise ILLEGAL_OP on the illegal forms, and no operation behind those
checks answers ILLEGAL_OP. -/
theorem illegalOpExactlyForIllegalForms : Obligations.IllegalOpExactlyForIllegalForms :=
  fun _ _ hready => ⟨exec_of_illegalForm hready, fun hi _ => exec_status_of_not_illegalForm hready hi⟩

end Sys2Proof.Proofs.IllegalOp
end

section

/-! The rules of the codec's shared operations: the argument checks as equations between effects (R97 to R99), the
bytes of the frames (R63, R66), and what an accepted send does to a ready state (R14, R43). -/

open Sys2Proof Sys2Proof.Machine

namespace Sys2Proof.Proofs.CodecRules

/-- The legal data widths (R96). -/
abbrev LegalWidth (w : Byte) : Prop := w = 1 ∨ w = 2 ∨ w = 4

theorem not_legalWidth {w : Byte} (h1 : w ≠ 1) (h2 : w ≠ 2) (h4 : w ≠ 4) : ¬ LegalWidth w :=
  fun h => h.elim h1 (·.elim h2 h4)

theorem widthRefused_iff {w : Byte} : (!widthOk w) = true ↔ ¬ LegalWidth w := by
  rw [LegalWidth, ← widthOk_iff, Bool.not_eq_true', Bool.not_eq_true]

/-- A ready block does what the guarded operation's checks leave of its body. -/
theorem guarded_of_ready_of_eq {body effect : State → State} {s : State} (hready : Ready s)
    (h : body = effect) : guarded body s = .next (effect s) :=
  h ▸ guarded_of_ready hready

/-! ## The checks of the SDO builders -/

section sdoChecked
variable {node w : Byte} {body : State → State}

theorem sdoChecked_of_node (hnode : 127 < node.toNat) :
    sdoChecked node w body = raiseContractViolation .cvNodeRange :=
  funext fun _ => if_pos hnode

theorem sdoChecked_of_width (hnode : node.toNat ≤ 127) (hw : ¬ LegalWidth w) :
    sdoChecked node w body = raiseContractViolation .cvWidth := by
  funext s
  rw [sdoChecked, if_neg hnode.not_gt, if_pos (widthRefused_iff.2 hw)]

theorem sdoChecked_of_legal (hnode : node.toNat ≤ 127) (hw : LegalWidth w) :
    sdoChecked node w body = body := by
  funext s
  rw [sdoChecked, if_neg hnode.not_gt, if_neg (widthRefused_iff.not_left.2 hw)]

end sdoChecked

/-! ## The checks of RPDO_SEND -/

section rpdoChecked
variable {node offset w : Byte} {base : U16} {body : State → State}

theorem rpdoChecked_of_node (hnode : 127 < node.toNat) :
    rpdoChecked node base offset w body = raiseContractViolation .cvNodeRange :=
  funext fun _ => if_pos hnode

theorem rpdoChecked_of_cob (hnode : node.toNat ≤ 127) (hcob : 0x7FF < base.toNat + node.toNat) :
    rpdoChecked node base offset w body = raiseContractViolation .cvCobRange := by
  funext s
  rw [rpdoChecked, if_neg hnode.not_gt, if_pos hcob]

theorem rpdoChecked_of_width (hnode : node.toNat ≤ 127) (hcob : base.toNat + node.toNat ≤ 0x7FF)
    (hw : ¬ LegalWidth w) : rpdoChecked node base offset w body = raiseContractViolation .cvWidth := by
  funext s
  rw [rpdoChecked, if_neg hnode.not_gt, if_neg hcob.not_gt, if_pos (widthRefused_iff.2 hw)]

theorem rpdoChecked_of_offset (hnode : node.toNat ≤ 127) (hcob : base.toNat + node.toNat ≤ 0x7FF)
    (hw : LegalWidth w) (hoffset : offset.toNat < 2 ∨ 8 < offset.toNat + w.toNat) :
    rpdoChecked node base offset w body = raiseContractViolation .cvOffset := by
  funext s
  rw [rpdoChecked, if_neg hnode.not_gt, if_neg hcob.not_gt, if_neg (widthRefused_iff.not_left.2 hw),
    if_pos hoffset]

theorem rpdoChecked_of_legal (hnode : node.toNat ≤ 127) (hcob : base.toNat + node.toNat ≤ 0x7FF)
    (hw : LegalWidth w) (hlow : 2 ≤ offset.toNat) (hhigh : offset.toNat + w.toNat ≤ 8) :
    rpdoChecked node base offset w body = body := by
  funext s
  rw [rpdoChecked, if_neg hnode.not_gt, if_neg hcob.not_gt, if_neg (widthRefused_iff.not_left.2 hw),
    if_neg (by omega)]

end rpdoChecked

/-! ## The frames -/

/-- An SDO frame is its header with the data field written at byte 4 (R63). -/
theorem buildSdo_eq_memWrite (cmd : Byte) (index : U16) (subindex : Byte) (n : Nat) (data : U32) :
    buildSdo cmd index subindex n data =
      memWrite ⟨cmd, lo index, hi index, subindex, 0, 0, 0, 0⟩ 4 n data := by
  have hheader : setByte (memWrite (setByte zeroPayload 0 cmd) 1 2 (index.setWidth 32)) 3 subindex =
      ⟨cmd, lo index, hi index, subindex, 0, 0, 0, 0⟩ := by
    simp [memWrite, setByte, zeroPayload, payloadOf, byteAt, extract_setWidth]
  exact congrArg (memWrite · 4 n data) hheader

/-- An RPDO frame is its command code with the data field written at its offset (R66). -/
theorem buildRpdo_eq_memWrite (code : U16) (offset w : Nat) (data : U32) :
    buildRpdo code offset w data = memWrite ⟨lo code, hi code, 0, 0, 0, 0, 0, 0⟩ offset w data := by
  have hcode : memWrite zeroPayload 0 2 (code.setWidth 32) = ⟨lo code, hi code, 0, 0, 0, 0, 0, 0⟩ := by
    simp [memWrite, zeroPayload, payloadOf, byteAt, extract_setWidth]
  exact congrArg (memWrite · offset w data) hcode

/-! ## Accepted sends -/

theorem exec_sdoWrite_of_legal {s : State} {node w : Byte} (index : U16) (subindex : Byte) (data : U32)
    (hready : Ready s) (hnode : node.toNat ≤ 127) (hw : LegalWidth w) :
    exec (.sdoWrite node index subindex w data) s =
      .next ((s.sending (BitVec.ofNat 11 (0x600 + node.toNat))
        (buildSdo (sdoWriteCmd w) index subindex w.toNat data)).answered (.sent s.nextAnswer)) :=
  guarded_of_ready_of_eq hready (sdoChecked_of_legal hnode hw)

theorem exec_sdoReadReq_of_legal {s : State} {node w : Byte} (index : U16) (subindex : Byte)
    (hready : Ready s) (hnode : node.toNat ≤ 127) (hw : LegalWidth w) :
    exec (.sdoReadReq node index subindex w) s =
      .next ((s.sending (BitVec.ofNat 11 (0x600 + node.toNat))
        ⟨sdoReadCmd w, lo index, hi index, subindex, 0, 0, 0, 0⟩).answered (.sent s.nextAnswer)) := by
  have hframe : buildSdo (sdoReadCmd w) index subindex 0 0 =
      ⟨sdoReadCmd w, lo index, hi index, subindex, 0, 0, 0, 0⟩ := by simp [buildSdo_eq]
  rw [← hframe]
  exact guarded_of_ready_of_eq hready (sdoChecked_of_legal hnode hw)

theorem exec_rpdoSend_of_legal {s : State} {node offset w : Byte} {base : U16} (code : U16) (data : U32)
    (hready : Ready s) (hnode : node.toNat ≤ 127) (hcob : base.toNat + node.toNat ≤ 0x7FF)
    (hw : LegalWidth w) (hlow : 2 ≤ offset.toNat) (hhigh : offset.toNat + w.toNat ≤ 8) :
    exec (.rpdoSend node base code offset w data) s =
      .next ((s.sending (BitVec.ofNat 11 (base.toNat + node.toNat))
        (memWrite ⟨lo code, hi code, 0, 0, 0, 0, 0, 0⟩ offset.toNat w.toNat data)).answered
          (.sent s.nextAnswer)) := by
  rw [← buildRpdo_eq_memWrite]
  exact guarded_of_ready_of_eq hready (rpdoChecked_of_legal hnode hcob hw hlow hhigh)

end Sys2Proof.Proofs.CodecRules
end

section

/-! The codec's three sends: their checks in order, and the frame each puts on the wire (O14, O15, O16; R97 to
R99). -/

open Sys2Proof Sys2Proof.Machine

namespace Sys2Proof.Proofs.CodecSends

open Sys2Proof.Proofs.CodecRules

/-- Settles O14: the checks raise the two violations, and an accepted write sends the SDO frame of its width,
whose bytes `buildSdo_eq` names. -/
theorem sdoWriteSendsFrame : Obligations.SdoWriteSendsFrame := by
  intro s node index subindex w data hready
  have hsend := exec_sdoWrite_of_legal (node := node) (w := w) index subindex data hready
  rw [buildSdo_eq] at hsend
  refine ⟨⟨_, rfl, rfl⟩, fun hnode => ?_, fun hnode h1 h2 h4 => ?_, fun hnode hw => ?_, fun hnode hw => ?_,
    fun hnode hw => ?_⟩
  · exact guarded_of_ready_of_eq hready (sdoChecked_of_node hnode)
  · exact guarded_of_ready_of_eq hready (sdoChecked_of_width hnode (not_legalWidth h1 h2 h4))
  · subst hw
    exact hsend hnode (.inl rfl)
  · subst hw
    exact hsend hnode (.inr (.inl rfl))
  · subst hw
    exact hsend hnode (.inr (.inr rfl))

/-- Settles O15: the same checks, and the width of an accepted request shows in its command byte alone. -/
theorem sdoReadReqSendsFrame : Obligations.SdoReadReqSendsFrame := by
  intro s node index subindex w hready
  refine ⟨⟨_, rfl, rfl⟩, fun hnode => ?_, fun hnode h1 h2 h4 => ?_, fun cmd hnode hcmd => ?_⟩
  · exact guarded_of_ready_of_eq hready (sdoChecked_of_node hnode)
  · exact guarded_of_ready_of_eq hready (sdoChecked_of_width hnode (not_legalWidth h1 h2 h4))
  · obtain ⟨hw, rfl⟩ : LegalWidth w ∧ sdoReadCmd w = cmd := by
      obtain ⟨rfl, rfl⟩ | ⟨rfl, rfl⟩ | ⟨rfl, rfl⟩ := hcmd <;> decide
    exact exec_sdoReadReq_of_legal index subindex hready hnode hw

/-- Settles O16: each check fires when those before it pass, and the frame sent is the command code with the data
field written over bytes that do not meet it. -/
theorem rpdoSendChecksThenSends : Obligations.RpdoSendChecksThenSends := by
  intro s node base code offset w data hready
  refine ⟨⟨_, rfl, rfl⟩, fun hnode => ?_, fun hnode hcob => ?_, fun hnode hcob h1 h2 h4 => ?_,
    fun hnode hcob hw hoffset => ?_, fun hnode hcob hw hlow hhigh => ?_⟩
  · exact guarded_of_ready_of_eq hready (rpdoChecked_of_node hnode)
  · exact guarded_of_ready_of_eq hready (rpdoChecked_of_cob hnode hcob)
  · exact guarded_of_ready_of_eq hready (rpdoChecked_of_width hnode hcob (not_legalWidth h1 h2 h4))
  · exact guarded_of_ready_of_eq hready (rpdoChecked_of_offset hnode hcob hw hoffset)
  · refine ⟨_, exec_rpdoSend_of_legal code data hready hnode hcob hw hlow hhigh, ?_, ?_, fun k hk => ?_,
      fun j hj hfield hout => ?_⟩
    · exact PayloadFields.byteAt_memWrite_outside _ data (by decide) (.inl (by omega))
    · exact PayloadFields.byteAt_memWrite_outside _ data (by decide) (.inl (by omega))
    · have hfield : offset.toNat ≤ offset.toNat + k ∧ offset.toNat + k < offset.toNat + w.toNat := by omega
      rw [byteAt_memWrite _ _ _ _ (hfield.2.trans_le hhigh), if_pos hfield, Nat.add_sub_cancel_left]
    · rw [PayloadFields.byteAt_memWrite_outside _ data hj hout]
      interval_cases j <;> rfl

end Sys2Proof.Proofs.CodecSends
end

section

/-! The codec and the controller do not touch (O21, R91). -/

open Sys2Proof Sys2Proof.Machine

namespace Sys2Proof.Proofs.CodecIndependence

open Sys2Proof.Proofs.CodecRules

/-- The effects of the codec: an answer, a violation, or one frame, chosen without looking at the state. -/
inductive CodecEffect : (State → State) → Prop where
  | answer (r : Result) : CodecEffect (respond .ok r)
  | violation (st : Status) : CodecEffect (raiseContractViolation st)
  | send (cob : CobId) (p : Payload) : CodecEffect (sendAndRespond cob p)

theorem sdoChecked_codecEffect (node w : Byte) {body : State → State} (hbody : CodecEffect body) :
    CodecEffect (sdoChecked node w body) := by
  obtain hnode | hnode := Nat.lt_or_ge 127 node.toNat
  · exact sdoChecked_of_node hnode ▸ .violation _
  by_cases hw : LegalWidth w
  · exact (sdoChecked_of_legal hnode hw).symm ▸ hbody
  · exact sdoChecked_of_width hnode hw ▸ .violation _

theorem rpdoChecked_codecEffect (node : Byte) (base : U16) (offset w : Byte) {body : State → State}
    (hbody : CodecEffect body) : CodecEffect (rpdoChecked node base offset w body) := by
  obtain hnode | hnode := Nat.lt_or_ge 127 node.toNat
  · exact rpdoChecked_of_node hnode ▸ .violation _
  obtain hcob | hcob := Nat.lt_or_ge 0x7FF (base.toNat + node.toNat)
  · exact rpdoChecked_of_cob hnode hcob ▸ .violation _
  by_cases hw : LegalWidth w
  · by_cases hoffset : offset.toNat < 2 ∨ 8 < offset.toNat + w.toNat
    · exact rpdoChecked_of_offset hnode hcob hw hoffset ▸ .violation _
    · obtain ⟨hlow, hhigh⟩ : 2 ≤ offset.toNat ∧ offset.toNat + w.toNat ≤ 8 := by omega
      exact (rpdoChecked_of_legal hnode hcob hw hlow hhigh).symm ▸ hbody
  · exact rpdoChecked_of_width hnode hcob hw ▸ .violation _

/-- DECODE_COB_ID's range check looks at its operand only. -/
theorem decodeCobId_codecEffect (cobId : U16) (r : Result) :
    CodecEffect fun s => if 0x7FF < cobId.toNat then raiseContractViolation .cvCobRange s else respond .ok r s := by
  by_cases hcob : 0x7FF < cobId.toNat
  · simpa only [if_pos hcob] using .violation .cvCobRange
  · simpa only [if_neg hcob] using .answer r

/-- A codec operation is guarded, and its body is one codec effect, the same in every state. -/
theorem exec_codecEffect {i : Instr} (hi : IsCodec i) :
    ∃ body : State → State, CodecEffect body ∧ ∀ s, exec i s = guarded body s := by
  cases i with
  | sdoWrite | sdoReadReq => exact ⟨_, sdoChecked_codecEffect _ _ (.send _ _), fun _ => rfl⟩
  | rpdoSend => exact ⟨_, rpdoChecked_codecEffect _ _ _ _ (.send _ _), fun _ => rfl⟩
  | decodeCobId => exact ⟨_, decodeCobId_codecEffect _ _, fun _ => rfl⟩
  | decodeSdoIndex | decodeSdoSubindex | bfHi | bfLo | bfSetHi | bfSetLo =>
    exact ⟨_, .answer _, fun _ => rfl⟩
  | _ => exact hi.elim

section CodecEffect
variable {effect : State → State} (h : CodecEffect effect)
include h

/-- The transport's draw is all an effect's answer and frame take from the state. -/
theorem CodecEffect.same_output {s s' : State} (hdraws : s.sendDraws = s'.sendDraws) :
    (effect s).response = (effect s').response ∧
      ∃ added, (effect s).trace = s.trace ++ added ∧ (effect s').trace = s'.trace ++ added := by
  cases h with
  | answer | violation => exact ⟨rfl, [], (List.append_nil _).symm, (List.append_nil _).symm⟩
  | send cob p => exact ⟨by simp [sendAndRespond, sendAnswer, hdraws], [⟨cob, p⟩], rfl, rfl⟩

/-- An effect writes the trace, the draw count, the answer and the latch, and no other register. -/
theorem CodecEffect.frame (s : State) :
    effect s = { s with
      trace := (effect s).trace, sendDraws := (effect s).sendDraws, response := (effect s).response
      cvLatched := (effect s).cvLatched, cvFirstCode := (effect s).cvFirstCode } := by
  cases h <;> rfl

end CodecEffect

/-- Settles O21: every codec operation is one effect chosen without the state, and node 0 passes the node check as
any other node up to 127. -/
theorem codecIsIndependentOfController : Obligations.CodecIsIndependentOfController := by
  refine ⟨fun s s' t t' i hi hready hready' hdraws ht ht' => ?_,
    fun s index subindex w writeCmd readCmd data hready hcmd => ?_,
    fun s base code offset w data hready hbase hw hlow hhigh => ?_⟩
  · obtain ⟨body, heffect, hexec⟩ := exec_codecEffect hi
    rw [hexec, guarded_of_ready hready] at ht
    rw [hexec, guarded_of_ready hready'] at ht'
    cases ht
    cases ht'
    obtain ⟨hresponse, htrace⟩ := heffect.same_output hdraws
    exact ⟨hresponse, htrace, heffect.frame s⟩
  · obtain ⟨hw, rfl, rfl⟩ : LegalWidth w ∧ sdoWriteCmd w = writeCmd ∧ sdoReadCmd w = readCmd := by
      obtain ⟨rfl, rfl, rfl⟩ | ⟨rfl, rfl, rfl⟩ | ⟨rfl, rfl, rfl⟩ := hcmd <;> decide
    rw [← buildSdo_eq_memWrite]
    exact ⟨exec_sdoWrite_of_legal index subindex data hready (by decide) hw,
      exec_sdoReadReq_of_legal index subindex hready (by decide) hw⟩
  · exact exec_rpdoSend_of_legal code data hready (by decide) hbase hw hlow hhigh

end Sys2Proof.Proofs.CodecIndependence
end

section

/-! The codec operations that only answer: identifiers, SDO fields and byte fields (O17, O18, O19; R92 to R95, R100
to R102). -/

open Sys2Proof Sys2Proof.Machine

namespace Sys2Proof.Proofs.CodecFields

open Sys2Proof.Proofs.CodecRules

/-- Settles O17: the range check, then the two masked parts. -/
theorem cobIdDecomposes : Obligations.CobIdDecomposes := by
  intro s cobId hready
  refine ⟨⟨_, rfl, rfl⟩, fun hwide => ?_, fun hnarrow => ?_⟩
  · exact guarded_of_ready_of_eq hready (funext fun _ => if_pos hwide)
  · exact guarded_of_ready_of_eq hready (funext fun _ => if_neg hnarrow.not_gt)

/-- Settles O18: the index is the 16-bit field at byte 1, whose bytes `memRead16_eq` names. -/
theorem sdoFieldsReadAtFixedOffsets : Obligations.SdoFieldsReadAtFixedOffsets := by
  intro s b0 b1 b2 b3 b4 b5 b6 b7 hready
  refine ⟨⟨_, rfl, rfl⟩, ⟨_, rfl, rfl⟩, ?_, guarded_of_ready hready⟩
  have hindex : memRead16 ⟨b0, b1, b2, b3, b4, b5, b6, b7⟩ 1 = b2 ++ b1 := memRead16_eq _ 1
  rw [← hindex]
  exact guarded_of_ready hready

/-- Settles O19: the two bytes cut out of `h ++ l` are `h` and `l`. -/
theorem byteFieldOperations : Obligations.ByteFieldOperations := by
  intro s h l b v hready hv
  obtain rfl : v.extractLsb' 8 8 = h := hv ▸ BitVec.extractLsb'_append_eq_left
  obtain rfl : v.extractLsb' 0 8 = l := hv ▸ BitVec.extractLsb'_append_eq_right
  exact ⟨⟨_, rfl, rfl⟩, ⟨_, rfl, rfl⟩, ⟨_, rfl, rfl⟩, ⟨_, rfl, rfl⟩, guarded_of_ready hready,
    guarded_of_ready hready, guarded_of_ready hready, guarded_of_ready hready⟩

end Sys2Proof.Proofs.CodecFields
end

section

/-! The rules of the tick's three steps (R116): which loss the first two report, and what the third then does to the
timer, the trace and the answer. -/

open Sys2Proof Sys2Proof.Machine

namespace Sys2Proof.Proofs.TickRules

/-! ## Timers (R111) -/

theorem expired_eq_false {start : U64} {interval : U32} {now : U64} {tie : Bool}
    (h : ¬ TimerExpired start interval now tie) : expired start interval now tie = false :=
  Bool.eq_false_iff.2 ((expired_iff _ _ _ _).not.2 h)

/-- At the boundary the tie draw decides. -/
theorem expired_of_elapsed_eq {start : U64} {interval : U32} {now : U64} {tie : Bool}
    (h : now.toNat - start.toNat = interval.toNat) : expired start interval now tie = tie := by
  rw [Bool.eq_iff_iff, expired_iff]
  simp [TimerExpired, h]

theorem rpdoExpired_eq_decide (now : U64) (s : State) :
    rpdoExpired now s = decide (RpdoDue s now s.tieDraws) := by
  rw [Bool.eq_iff_iff, rpdoExpired_iff, decide_eq_true_iff]

/-! ## Steps 1 and 2: the loss a tick reports -/

section loss
variable {now : U64} {s : State}

/-- Without a connection telemetry is lost before its timeout is looked at, so only R's check is left. -/
theorem tick_of_disconnected : tick false now s = tickCommand false now .disconnect (telemetryLoss s) := rfl

theorem tick_of_noTelemetry (htelem : s.telem = .noTelemetry) :
    tick true now s = tickCommand true now .none s := by
  simp [tick, tickDisconnect, tickTimeout, htelem]

theorem tick_of_timedOut (htelem : s.telem = .telemetryPresent) (hout : HealthTimedOut s now) :
    tick true now s = tickCommand true now .timeout (telemetryLoss (countCheck s)) := by
  simp only [tick, tickDisconnect, tickTimeout, htelem, (healthExpired_iff now s).2 hout, if_true]

theorem tick_of_not_timedOut (htelem : s.telem = .telemetryPresent) (hin : ¬ HealthTimedOut s now) :
    tick true now s = tickCommand true now .none (countCheck s) := by
  simp only [tick, tickDisconnect, tickTimeout, htelem, if_true, if_neg ((healthExpired_iff now s).not.2 hin)]

end loss

/-! ## Step 3: the periodic command -/

section command
variable {now : U64} {s : State}

/-- Without telemetry the third step checks and restarts R, and sends nothing. -/
theorem tickCommand_of_noTelemetry (connected : Bool) (loss : Loss) (htelem : s.telem = .noTelemetry) :
    tickCommand connected now loss s = { s with
      tieDraws := s.tieDraws + 1
      rpdoStart := if RpdoDue s now s.tieDraws then now else s.rpdoStart
      response := ⟨.ok, .tick loss (decide (RpdoDue s now s.tieDraws)) none⟩ } := by
  simp [tickCommand, htelem, checkAndRestartRpdo_eq, rpdoExpired_eq_decide, respond]

/-- With telemetry and R expired the third step restarts R and emits the command. -/
theorem tickCommand_of_due (loss : Loss) (htelem : s.telem = .telemetryPresent)
    (hdue : RpdoDue s now s.tieDraws) :
    tickCommand true now loss s = emitCommand (fun sent => respond .ok (.tick loss true sent))
      { s with tieDraws := s.tieDraws + 1, rpdoStart := now } := by
  have hfired : rpdoExpired now s = true := (rpdoExpired_iff now s).2 hdue
  simp [tickCommand, htelem, hfired, checkAndRestartRpdo_eq]

end command

section emit
variable {finish : Option Bool → State → State} {s : State}

theorem emitCommand_of_undefined (hmode : s.mode = .undefined) : emitCommand finish s = finish none s := by
  simp [emitCommand, encodeCommand, hmode]

/-- A mode that has a frame is not the unreachable arm (R153). -/
theorem not_legacyAmps_of_commandFrame {e : TxEvent} (he : commandFrame s.cfg s.mode s.setpoint = some e) :
    ¬ LegacyAmps s := by
  rintro ⟨hlegacy, hamps⟩
  simp [commandFrame, hlegacy, hamps] at he

theorem emitCommand_of_commandFrame {e : TxEvent} (he : commandFrame s.cfg s.mode s.setpoint = some e) :
    emitCommand finish s = finish (some (sendAnswer s)) (transmit e.cobId e.payload s) := by
  have hencode : encodeCommand s = .frame e := by
    rw [encodeCommand_eq, if_neg (not_legacyAmps_of_commandFrame he), he]
  simp only [emitCommand, hencode]

end emit

/-! ## EXECUTE -/

theorem exec_execute_disconnected {s : State} (now : U64) (hready : Ready s) :
    exec (.execute 0 now) s = .next (tick false now s) :=
  exec_execute_of_ready now hready (by decide)

theorem exec_execute_connected {s : State} (now : U64) (hready : Ready s) :
    exec (.execute 1 now) s = .next (tick true now s) :=
  exec_execute_of_ready now hready (by decide)

/-- A connected tick that keeps telemetry and finds R expired makes two timer checks, restarts R and emits the
command of its mode (R116, R118). -/
theorem exec_execute_of_due {s : State} {now : U64} (hready : Ready s) (htelem : s.telem = .telemetryPresent)
    (hin : ¬ HealthTimedOut s now) (hdue : RpdoDue s now (s.tieDraws + 1)) :
    exec (.execute 1 now) s = .next (emitCommand (fun sent => respond .ok (.tick .none true sent))
      { s with tieDraws := s.tieDraws + 2, rpdoStart := now }) := by
  rw [exec_execute_connected now hready, tick_of_not_timedOut htelem hin,
    tickCommand_of_due (s := countCheck s) .none htelem hdue]
  rfl

end Sys2Proof.Proofs.TickRules
end

section

/-! The timers and the controller tick (O22, O23, O24; R111 to R113, R117 to R120). -/

open Sys2Proof Sys2Proof.Machine

namespace Sys2Proof.Proofs.ControllerTick

open Sys2Proof.Proofs.TickRules

/-- Settles O22: each clause is a comparison of the time elapsed with the interval. -/
theorem timerExpiryFollowsElapsedTime : Obligations.TimerExpiryFollowsElapsedTime := by
  refine ⟨fun start interval now tie => ⟨fun hstarted => ⟨fun hmore => ?_, fun heq => ?_, fun hless => ?_⟩,
    fun hbefore => ⟨fun hzero => ?_, fun hnonzero => ?_⟩⟩, fun s now => ⟨rfl, rfl, ?_⟩⟩
  · exact (expired_iff _ _ _ _).2 (.inl (by omega))
  · exact expired_of_elapsed_eq (by omega)
  · exact expired_eq_false (by unfold TimerExpired; omega)
  · exact expired_of_elapsed_eq (by simp [hzero, hbefore.le])
  · have hpositive : interval.toNat ≠ 0 := fun h => hnonzero (BitVec.eq_of_toNat_eq h)
    exact expired_eq_false (by unfold TimerExpired; omega)
  · exact checkAndRestartRpdo_eq now s

/-- Settles O23: either loss leaves the third step without telemetry. -/
theorem telemetryLossTicks : Obligations.TelemetryLossTicks := by
  refine ⟨fun s now hready => ?_, fun s now hready htelem hout => ?_⟩
  · rw [exec_execute_disconnected now hready, tick_of_disconnected, tickCommand_of_noTelemetry _ _ rfl]
    rfl
  · rw [exec_execute_connected now hready, tick_of_timedOut htelem hout, tickCommand_of_noTelemetry _ _ rfl]
    rfl

/-- Settles O24: a tick that keeps telemetry goes on to its third step, which emits when R has expired; the two
ticks that lose it are those of O23. -/
theorem tickSendsPeriodicCommand : Obligations.TickSendsPeriodicCommand := by
  obtain ⟨hdisconnect, htimeout⟩ := telemetryLossTicks
  refine ⟨fun s now hready htelem => ?_, fun s now hready htelem hin hnot => ?_,
    fun s now hready htelem hin hdue hmode => ?_, fun s now e hready htelem hin hdue he => ?_,
    fun s now hready => ⟨_, hdisconnect s now hready, rfl, rfl⟩,
    fun s now hready htelem hout => ⟨_, htimeout s now hready htelem hout, rfl, rfl⟩⟩
  · rw [exec_execute_connected now hready, tick_of_noTelemetry htelem, tickCommand_of_noTelemetry _ _ htelem]
  · rw [exec_execute_connected now hready, tick_of_not_timedOut htelem hin,
      tickCommand_of_not_expired (expired_eq_false hnot)]
    rfl
  · exact (exec_execute_of_due hready htelem hin hdue).trans (congrArg _ (emitCommand_of_undefined hmode))
  · exact (exec_execute_of_due hready htelem hin hdue).trans (congrArg _ (emitCommand_of_commandFrame he))

end Sys2Proof.Proofs.ControllerTick
end

section

/-! The checks of the controller commands as conditions on values, and the numbered registers as the register map lists
them (R143 to R145, R163, R169 to R171). -/

open Sys2Proof Sys2Proof.Machine

namespace Sys2Proof.Proofs.CommandRules

/-! ## Setpoint ranges -/

theorem inUnsignedRange_iff {lo hi v : U16} :
    inUnsignedRange lo hi v = true ↔ lo.toNat ≤ v.toNat ∧ v.toNat ≤ hi.toNat :=
  decide_eq_true_iff

theorem inSignedRange_iff {lo hi v : U16} :
    inSignedRange lo hi v = true ↔ lo.toInt ≤ v.toInt ∧ v.toInt ≤ hi.toInt :=
  decide_eq_true_iff

/-! ## Getters -/

/-- The position has a source unless the variant is Legacy without an encoder (R169). -/
theorem providesPosition_iff {c : CfgRegs} :
    providesPosition c = true ↔ ¬ (c.protocol = .legacy ∧ c.encoderPresent = false) := by
  cases hprotocol : c.protocol <;> simp [providesPosition, hprotocol]

theorem providesAmps_iff {c : CfgRegs} : providesAmps c = true ↔ c.protocol = .canopenV2 :=
  decide_eq_true_iff

theorem providesStatus_iff {c : CfgRegs} : providesStatus c = true ↔ c.protocol = .canopenV2 :=
  decide_eq_true_iff

theorem providesLegacyFs_iff {c : CfgRegs} : providesLegacyFs c = true ↔ c.protocol = .legacy :=
  decide_eq_true_iff

theorem getter_of_written {provided written : Bool} {s : State} (value : Result)
    (htelem : s.telem = .telemetryPresent) (hprovided : provided = true) (hwritten : written = true) :
    getter provided written value s = s.answered value := by
  rw [getter_cases htelem, if_pos ⟨hprovided, hwritten⟩]
  rfl

/-! ## READ_REG -/

theorem telemCode_eq_ite (t : Telemetry) : telemCode t = if t = .noTelemetry then 0 else 1 := by
  cases t <;> rfl

theorem protocolCode_eq_ite (p : Protocol) : protocolCode p = if p = .legacy then 0 else 1 := by
  cases p <;> rfl

theorem modeCode_eq_ite (m : Mode) :
    modeCode m = if m = .undefined then 0 else if m = .position then 1 else if m = .speed then 2 else 3 := by
  cases m <;> rfl

/-- The flag stands in bit 0, below seven zero bits and the code (R33, R34). -/
theorem flagWord_eq_append (flag : Bool) (code : Byte) :
    flagWord flag code = code ++ (0 : BitVec 7) ++ BitVec.ofBool flag := by
  revert code
  cases flag <;> decide

/-- The register map lists what READ_REG looks up. -/
theorem regValue_of_mem_registerMap {s : State} {reg : Byte} {v : U32} (h : (reg, v) ∈ registerMap s) :
    regValue reg s = some v := by
  have hall : ∀ entry ∈ registerMap s, regValue entry.1 s = some entry.2 := by
    simp [registerMap, regValue, telemCode_eq_ite, protocolCode_eq_ite, modeCode_eq_ite, cvStatus, faultStatus,
      flagWord_eq_append]
  exact hall (reg, v) h

/-- The numbers the register map leaves out, the same in every state, are the unassigned ones (R48). -/
theorem unassigned_of_not_mem_registerMap {s : State} {reg : Byte} (h : reg ∉ (registerMap s).map (·.1)) :
    0x0A < reg.toNat ∧ ¬ (0x10 ≤ reg.toNat ∧ reg.toNat ≤ 0x15) := by
  revert reg
  change ∀ reg : Byte, reg ∉ [0x00, 0x01, 0x02, 0x03, 0x04, 0x05, 0x06, 0x07, 0x08, 0x09, 0x0A,
    0x10, 0x11, 0x12, 0x13, 0x14, 0x15] → _
  decide

/-! ## WRITE_CONFIG -/

theorem configValueLegal_iff (reg : Byte) (value : U32) :
    configValueLegal reg value = true ↔ LegalConfig reg value := by
  unfold configValueLegal LegalConfig
  split
  case h_6 h0 h1 h2 h3 h4 =>
    simp only [imp_false] at h0 h1 h2 h3 h4
    have hwide : 5 ≤ reg.toNat := by omega
    simp [← BitVec.toNat_inj, h0, h1, h2, hwide]
  all_goals
    next h => simp [← BitVec.toNat_inj, h]

/-- A legal value of a two-valued register is one of its two codes. -/
theorem eq_zero_or_one_of_toNat_le {value : U32} (h : value.toNat ≤ 1) : value = 0 ∨ value = 1 := by
  rw [← BitVec.toNat_inj, ← BitVec.toNat_inj]
  exact Nat.le_one_iff_eq_zero_or_eq_one.1 h

/-- A legal value survives the truncation to its register's width. -/
theorem writeConfigReg_eq_configWith {reg : Byte} {value : U32} (hreg : reg.toNat ≤ 0x0A)
    (hlegal : LegalConfig reg value) (c : CfgRegs) : writeConfigReg reg value c = configWith c reg value := by
  obtain ⟨-, hbit, -⟩ := hlegal
  unfold writeConfigReg
  split
  case h_2 h =>
    obtain rfl : reg = 0x01 := BitVec.eq_of_toNat_eq h
    obtain rfl | rfl := eq_zero_or_one_of_toNat_le (hbit (.inl rfl)) <;> rfl
  case h_3 h =>
    obtain rfl : reg = 0x02 := BitVec.eq_of_toNat_eq h
    obtain rfl | rfl := eq_zero_or_one_of_toNat_le (hbit (.inr rfl)) <;> rfl
  case h_12 =>
    simp only [imp_false] at *
    omega
  all_goals
    next h => simp [configWith, ← BitVec.toNat_inj, h]

end Sys2Proof.Proofs.CommandRules
end

section

/-! The command encoder's frames (O25; R149 to R157). -/

open Sys2Proof Sys2Proof.Machine

namespace Sys2Proof.Proofs.CommandEncoder

open Sys2Proof.Proofs.TickRules

theorem encodeCommand_of_commandFrame {s : State} {e : TxEvent}
    (he : commandFrame s.cfg s.mode s.setpoint = some e) : encodeCommand s = .frame e := by
  rw [encodeCommand_eq, if_neg (not_legacyAmps_of_commandFrame he), he]

/-- Settles O25: the encoder follows the wire tables, whose frame for a mode and variant is then read off. -/
theorem encoderProducesWireFrames : Obligations.EncoderProducesWireFrames := by
  intro s
  refine ⟨fun hmode => ?_, fun hmode hlegacy => ?_, fun hmode hlegacy hencoder => ?_,
    fun hmode hlegacy hencoder => ?_, fun hmode hv2 => ?_, fun hmode hv2 => ?_, fun hmode hv2 => ?_,
    faultAckFrame_eq _⟩
  · simp [encodeCommand, hmode]
  · exact encodeCommand_of_commandFrame (by simp [commandFrame, hmode, hlegacy, legacyWireFrame])
  · exact encodeCommand_of_commandFrame (by simp [commandFrame, hmode, hlegacy, hencoder, legacyWireFrame])
  · exact encodeCommand_of_commandFrame (by simp [commandFrame, hmode, hlegacy, hencoder, legacyWireFrame])
  · exact encodeCommand_of_commandFrame (by simp [commandFrame, hmode, hv2, v2PositionWireFrame])
  · exact encodeCommand_of_commandFrame (by simp [commandFrame, hmode, hv2, v2SpeedWireFrame])
  · exact encodeCommand_of_commandFrame (by simp [commandFrame, hmode, hv2, v2AmpsWireFrame])

end Sys2Proof.Proofs.CommandEncoder
end

section

/-! The setters (O26 to O29; R143 to R146). -/

open Sys2Proof Sys2Proof.Machine

namespace Sys2Proof.Proofs.Setters

open Sys2Proof.Proofs.CommandRules

section
variable {s : State} (hready : Ready s)
include hready

theorem exec_setPosition_of_ready (sp : U16) :
    exec (.setPosition sp) s = .next (if inUnsignedRange s.cfg.posMin s.cfg.posMax sp then
      acceptSetpoint .position sp s else raiseContractViolation .cvSetpointRange s) := by
  simp only [exec, execSetPosition, guarded_of_ready hready]

theorem exec_setSpeed_of_ready (sp : U16) :
    exec (.setSpeed sp) s = .next (if inSignedRange s.cfg.speedMin s.cfg.speedMax sp then
      acceptSetpoint .speed sp s else raiseContractViolation .cvSetpointRange s) := by
  simp only [exec, execSetSpeed, guarded_of_ready hready]

theorem exec_setAmps_of_legacy (hlegacy : s.cfg.protocol = .legacy) (sp : U16) :
    exec (.setAmps sp) s = .next (raiseContractViolation .cvUnsupportedMode s) := by
  simp only [exec, execSetAmps, guarded_of_ready hready, hlegacy]

theorem exec_setAmps_of_canopenV2 (hv2 : s.cfg.protocol = .canopenV2) (sp : U16) :
    exec (.setAmps sp) s = .next (if inSignedRange s.cfg.ampsMin s.cfg.ampsMax sp then
      acceptSetpoint .amps sp s else raiseContractViolation .cvSetpointRange s) := by
  simp only [exec, execSetAmps, guarded_of_ready hready, hv2]

theorem exec_setUndefined_of_ready :
    exec .setUndefined s = .next (respond .ok .none { s with mode := .undefined }) := by
  simp only [exec, execSetUndefined, guarded_of_ready hready]

end

/-- Settles O26: one unsigned range check decides. -/
theorem setPositionValidates : Obligations.SetPositionValidates := by
  intro s sp hready
  refine ⟨⟨_, rfl, rfl⟩, fun hin => ?_, fun hout => ?_⟩
  · rw [exec_setPosition_of_ready hready, if_pos (inUnsignedRange_iff.2 hin)]
    rfl
  · rw [exec_setPosition_of_ready hready, if_neg (inUnsignedRange_iff.not.2 hout)]
    rfl

/-- Settles O27: one signed range check decides. -/
theorem setSpeedValidates : Obligations.SetSpeedValidates := by
  intro s sp hready
  refine ⟨⟨_, rfl, rfl⟩, fun hin => ?_, fun hout => ?_⟩
  · rw [exec_setSpeed_of_ready hready, if_pos (inSignedRange_iff.2 hin)]
    rfl
  · rw [exec_setSpeed_of_ready hready, if_neg (inSignedRange_iff.not.2 hout)]
    rfl

/-- Settles O28: the variant decides before the signed range check does. -/
theorem setAmpsValidates : Obligations.SetAmpsValidates := by
  intro s sp hready
  refine ⟨⟨_, rfl, rfl⟩, fun hlegacy => ?_, fun hv2 hin => ?_, fun hv2 hout => ?_⟩
  · exact exec_setAmps_of_legacy hready hlegacy sp
  · rw [exec_setAmps_of_canopenV2 hready hv2, if_pos (inSignedRange_iff.2 hin)]
    rfl
  · rw [exec_setAmps_of_canopenV2 hready hv2, if_neg (inSignedRange_iff.not.2 hout)]
    rfl

/-- Settles O29: SET_UNDEFINED has no check beside the guard. -/
theorem setUndefinedKeepsSetpoint : Obligations.SetUndefinedKeepsSetpoint :=
  fun _ hready => ⟨⟨_, rfl, rfl⟩, exec_setUndefined_of_ready hready⟩

end Sys2Proof.Proofs.Setters
end

section

/-! Halt (O30; R159 to R162). -/

open Sys2Proof Sys2Proof.Machine

namespace Sys2Proof.Proofs.Halt

open Sys2Proof.Proofs.CommandRules Sys2Proof.Proofs.TickRules

/-- HALT with legal flags is its body. -/
theorem exec_halt_of_ready {flags : Byte} {s : State} (hready : Ready s) (hflags : flags.toNat < 2) :
    exec (.halt flags) s = .next (haltBody (connectedFlag flags) s) := by
  simp only [exec, execHalt]
  rw [guarded_of_ready hready, if_neg ((reservedFlagSet_iff flags).not.2 hflags.not_ge)]

/-- A halt moves the mode and the setpoint to its target and nothing else. -/
theorem neutralize_eq_haltTarget (s : State) :
    neutralize s = { s with mode := (haltTarget s).1, setpoint := (haltTarget s).2 } := by
  cases htelem : s.telem with
  | noTelemetry => simp [neutralize, haltTarget, htelem]
  | telemetryPresent =>
    cases hmode : s.mode with
    | position => cases hwritten : s.snap.wPosition <;> simp [neutralize, haltTarget, htelem, hmode, hwritten]
    | undefined =>
      have hkept : neutralize s = s := by simp [neutralize, htelem, hmode]
      have htarget : haltTarget s = (s.mode, s.setpoint) := by simp [haltTarget, htelem, hmode]
      rw [hkept, htarget, ← htelem]
    | speed | amps => simp [neutralize, haltTarget, htelem, hmode]

theorem exec_halt_disconnected {s : State} (hready : Ready s) :
    exec (.halt 0) s = .next (respond .ok (.haltSent none)
      { s with mode := (haltTarget s).1, setpoint := (haltTarget s).2 }) := by
  rw [exec_halt_of_ready hready (by decide), ← neutralize_eq_haltTarget]
  rfl

theorem exec_halt_connected {s : State} (hready : Ready s) :
    exec (.halt 1) s = .next (emitCommand (fun sent => respond .ok (.haltSent sent))
      { s with mode := (haltTarget s).1, setpoint := (haltTarget s).2 }) := by
  rw [exec_halt_of_ready hready (by decide), ← neutralize_eq_haltTarget]
  rfl

/-- Settles O30: the halt reaches its target, and a connected one then emits the target's command. -/
theorem haltNeutralizesAndEmits : Obligations.HaltNeutralizesAndEmits := by
  refine ⟨fun s hready => ?_, fun s hready hmode => ?_, fun s e hready he => ?_⟩
  · exact exec_halt_disconnected hready
  · exact (exec_halt_connected hready).trans (congrArg _ (emitCommand_of_undefined hmode))
  · exact (exec_halt_connected hready).trans (congrArg _ (emitCommand_of_commandFrame he))

end Sys2Proof.Proofs.Halt
end

section

/-! The getters' answers (O39; R163 to R169). -/

open Sys2Proof Sys2Proof.Machine

namespace Sys2Proof.Proofs.Getters

open Sys2Proof.Proofs.CommandRules

section
variable {s : State} (hready : Ready s)
include hready

theorem exec_getPosition_of_ready : exec .getPosition s =
    .next (getter (providesPosition s.cfg) s.snap.wPosition (.word s.snap.position) s) := by
  simp only [exec, execGetPosition, guarded_of_ready hready]

theorem exec_getSpeed_of_ready : exec .getSpeed s =
    .next (getter (providesSpeed s.cfg) s.snap.wSpeed (.signed (sext16 s.snap.speed)) s) := by
  simp only [exec, execGetSpeed, guarded_of_ready hready]

theorem exec_getAmps_of_ready : exec .getAmps s =
    .next (getter (providesAmps s.cfg) s.snap.wAmps (.signed (sext16 s.snap.amps)) s) := by
  simp only [exec, execGetAmps, guarded_of_ready hready]

theorem exec_getStatusWord_of_ready : exec .getStatusWord s =
    .next (getter (providesStatus s.cfg) s.snap.wStatus (.word s.snap.status) s) := by
  simp only [exec, execGetStatusWord, guarded_of_ready hready]

theorem exec_getLegacyFaultStatus_of_ready : exec .getLegacyFaultStatus s =
    .next (getter (providesLegacyFs s.cfg) s.snap.wLegacyFs (.word s.snap.legacyFs) s) := by
  simp only [exec, execGetLegacyFaultStatus, guarded_of_ready hready]

end

/-- Settles O39: in each clause the field is provided and written, so the getter's two checks pass. -/
theorem gettersAnswerWrittenFields : Obligations.GettersAnswerWrittenFields := by
  intro s hready htelem
  refine ⟨fun hsource hwritten => ?_, fun hwritten => ?_, fun hv2 hwritten => ?_, fun hv2 hwritten => ?_,
    fun hlegacy hwritten => ?_, ⟨_, rfl, rfl⟩, ⟨_, rfl, rfl⟩, ⟨_, rfl, rfl⟩, ⟨_, rfl, rfl⟩, ⟨_, rfl, rfl⟩⟩
  · rw [exec_getPosition_of_ready hready, getter_of_written _ htelem (providesPosition_iff.2 hsource) hwritten]
  · rw [exec_getSpeed_of_ready hready, providesSpeed, getter_of_written _ htelem rfl hwritten, sext16]
  · rw [exec_getAmps_of_ready hready, getter_of_written _ htelem (providesAmps_iff.2 hv2) hwritten, sext16]
  · rw [exec_getStatusWord_of_ready hready, getter_of_written _ htelem (providesStatus_iff.2 hv2) hwritten]
  · rw [exec_getLegacyFaultStatus_of_ready hready,
      getter_of_written _ htelem (providesLegacyFs_iff.2 hlegacy) hwritten]

end Sys2Proof.Proofs.Getters
end

section

/-! Register access (O41, O42; R170 to R173). -/

open Sys2Proof Sys2Proof.Machine

namespace Sys2Proof.Proofs.RegisterAccess

open Sys2Proof.Proofs.CommandRules Sys2Proof.Proofs.IllegalOp

theorem exec_readReg_of_regValue {s : State} {reg : Byte} {v : U32} (hready : Ready s)
    (h : regValue reg s = some v) : exec (.readReg reg) s = .next (s.answered (.reg v)) := by
  simp only [exec, execReadReg]
  rw [guarded_of_ready hready, h]
  rfl

/-- Settles O41: READ_REG looks the number up, and a number outside the map makes its form illegal. -/
theorem readRegReadsEachRegister : Obligations.ReadRegReadsEachRegister := by
  intro s hready
  refine ⟨fun reg v hmem => ?_, fun reg hout => ?_, fun reg => ⟨_, rfl, rfl⟩⟩
  · exact exec_readReg_of_regValue hready (regValue_of_mem_registerMap hmem)
  · exact exec_of_illegalForm hready (.inr (.inr (.inl ⟨reg, rfl, unassigned_of_not_mem_registerMap hout⟩)))

/-! ## WRITE_CONFIG -/

section writeConfigBody
variable {reg : Byte} {value : U32} {s : State}

theorem configRegAssigned_iff : configRegAssigned reg = true ↔ reg.toNat ≤ 0x0A := decide_eq_true_iff

theorem writeConfigBody_of_illegal_value (hreg : reg.toNat ≤ 0x0A) (hillegal : ¬ LegalConfig reg value) :
    writeConfigBody reg value s = raiseContractViolation .cvConfigValue s := by
  have hrefused : configValueLegal reg value = false :=
    Bool.eq_false_iff.2 ((configValueLegal_iff reg value).not.2 hillegal)
  simp [writeConfigBody, configRegAssigned_iff.2 hreg, hrefused]

/-- Legacy is not written while the mode is Amps (R172). -/
theorem writeConfigBody_legacy_of_amps (hmode : s.mode = .amps) :
    writeConfigBody 0x01 0 s = raiseContractViolation .cvUnsupportedMode s := by
  simp [writeConfigBody, configRegAssigned, configValueLegal, hmode]

theorem writeConfigBody_of_legal (hreg : reg.toNat ≤ 0x0A) (hlegal : LegalConfig reg value)
    (hallowed : ¬ (reg = 0x01 ∧ value = 0 ∧ s.mode = .amps)) (hnode : ¬ (reg = 0x00 ∧ value = 0)) :
    writeConfigBody reg value s = respond .ok .none { s with cfg := configWith s.cfg reg value } := by
  obtain ⟨hreg0, hvalue0, -⟩ | ⟨-, h⟩ := writeConfigBody_cases (configRegAssigned_iff.2 hreg)
    ((configValueLegal_iff reg value).2 hlegal) hallowed
  · exact absurd ⟨hreg0, hvalue0⟩ hnode
  · rw [h, writeConfigReg_eq_configWith hreg hlegal]

/-- Node 0 also loses telemetry (R173). -/
theorem writeConfigBody_node_zero :
    writeConfigBody 0x00 0 s =
      respond .ok .none (telemetryLoss { s with cfg := { s.cfg with nodeId := 0 } }) :=
  rfl

end writeConfigBody

theorem exec_writeConfig_of_ready {s : State} (hready : Ready s) (reg : Byte) (value : U32) :
    exec (.writeConfig reg value) s = .next (writeConfigBody reg value s) := by
  simp only [exec, execWriteConfig, guarded_of_ready hready]

/-- Settles O42, check by check in their order. -/
theorem writeConfigWritesOneRegister : Obligations.WriteConfigWritesOneRegister := by
  intro s reg value hready
  refine ⟨⟨_, rfl, rfl⟩, fun hunassigned => ?_, fun hreg hillegal => ?_, ?_,
    fun hreg hlegal hallowed hnode => ?_, ?_⟩
  · exact exec_of_illegalForm hready (.inr (.inr (.inr ⟨reg, value, rfl, hunassigned⟩)))
  · rw [exec_writeConfig_of_ready hready, writeConfigBody_of_illegal_value hreg hillegal]
    rfl
  · rintro rfl rfl hmode
    rw [exec_writeConfig_of_ready hready, writeConfigBody_legacy_of_amps hmode]
    rfl
  · rw [exec_writeConfig_of_ready hready, writeConfigBody_of_legal hreg hlegal hallowed hnode]
    rfl
  · rintro rfl rfl
    rw [exec_writeConfig_of_ready hready, writeConfigBody_node_zero]
    rfl

end Sys2Proof.Proofs.RegisterAccess
end

section

/-! Contract violations (O9, R178). -/

open Sys2Proof Sys2Proof.Machine

namespace Sys2Proof.Proofs.ContractViolations

/-- An answer with a violation's status comes from the violation itself: every other next state answers OK or
FAULT. -/
theorem nextState_of_violationCode {s t : State} {i : Instr} {code : Byte} (h : NextState s i t)
    (hcode : violationCode t.response.status = some code) :
    t = raiseContractViolation t.response.status s := by
  cases h with
  | violation | resetRefused => rfl
  | fault | tickUnreachable | haltUnreachable => nomatch hcode
  | answer | send | setpoint | setUndefined | tickEnd | tickSend | haltEnd | haltSend | v2 | v2Ack | legacy
  | secondary | tertiary | unconfigure | writeConfig | reset => nomatch hcode

theorem tickPrefix_cvLatched {s s' : State} (h : TickPrefix s s') : s'.cvLatched = s.cvLatched := by
  cases h with
  | kept | lost => rfl

theorem neutralized_cvLatched {s s' : State} (h : Neutralized s s') : s'.cvLatched = s.cvLatched := by
  cases h with
  | undefined | setpoint | same => rfl

theorem parseLegacyPrimary_cvLatched (p : Payload) (s : State) :
    (parseLegacyPrimary p s).cvLatched = s.cvLatched := by
  unfold parseLegacyPrimary
  split <;> rfl

/-- An operation other than RESET sets the latch or leaves it as it was. -/
theorem nextState_cvLatched {s t : State} {i : Instr} (h : NextState s i t) (hreset : ¬ IsReset i) :
    t.cvLatched = true ∨ t.cvLatched = s.cvLatched := by
  cases h with
  | violation => exact .inl rfl
  | resetRefused hr | reset hr => exact absurd hr hreset
  | fault | answer | send | setpoint | setUndefined => exact .inr rfl
  | tickEnd _ _ now _ _ _ hp =>
    exact .inr ((checkAndRestartRpdo_cvLatched now _).trans (tickPrefix_cvLatched hp))
  | tickSend _ _ now | tickUnreachable _ _ now => exact .inr (checkAndRestartRpdo_cvLatched now _)
  | haltEnd _ _ _ _ _ hn | haltSend _ _ _ _ _ _ _ hn | haltUnreachable _ _ _ _ hn =>
    exact .inr (by simpa using neutralized_cvLatched hn)
  | v2 | v2Ack | secondary | tertiary => exact .inr rfl
  | legacy _ _ _ p => exact .inr (parseLegacyPrimary_cvLatched p s)
  | unconfigure | writeConfig => exact .inr rfl

/-- Settles O9: a violation's status is only ever answered by the violation, and no next state but RESET's has
the latch cleared. -/
theorem contractViolationOnlyLatches : Obligations.ContractViolationOnlyLatches := by
  refine ⟨fun s t i code _ hexec hcode => ?_, fun s t i hreset hexec hlatched => ?_⟩
  · calc t = s.violated t.response.status (statusCode t.response.status) :=
          nextState_of_violationCode (exec_nextState hexec) hcode
      _ = s.violated t.response.status code := by rw [violationCode_eq_statusCode hcode]
  · exact (nextState_cvLatched (exec_nextState hexec) hreset).elim id (·.trans hlatched)

end Sys2Proof.Proofs.ContractViolations
end

section

/-! The unreachable arm and the faulted block (O10; R153, R179). -/

open Sys2Proof Sys2Proof.Machine

namespace Sys2Proof.Proofs.Faults

open Sys2Proof.Proofs.IllegalOp Sys2Proof.Proofs.TickRules Sys2Proof.Proofs.Halt

/-- The encoder has no frame for Legacy Amps (R153), so the emission faults instead of ending the operation. -/
theorem emitCommand_of_legacyAmps {finish : Option Bool → State → State} {s : State} (h : LegacyAmps s) :
    emitCommand finish s = raiseFault .legacyAmps s := by
  simp only [emitCommand, encodeCommand_eq, if_pos h]

/-- With telemetry, a halt in Amps zeroes the setpoint and keeps the mode (R161). -/
theorem haltTarget_of_amps {s : State} (htelem : s.telem = .telemetryPresent) (hmode : s.mode = .amps) :
    haltTarget s = (s.mode, 0) := by
  simp [haltTarget, htelem, hmode]

theorem exec_of_faulted {s : State} {i : Instr} (hinit : s.initialised = true) (hfaulted : s.faulted = true)
    (hreset : ¬ IsReset i) : exec i s = .next { s with response := ⟨.fault, .none⟩ } := by
  obtain ⟨body, hexec, -⟩ := exec_guarded i hreset
  rw [hexec, guarded_of_faulted hinit hfaulted]

/-- Settles O10: EXECUTE and HALT reach the encoder's unreachable arm after their writes, and the guard that every
other operation has, the illegal-opcode arm too, answers FAULT before its body. -/
theorem faultStopsTheBlock : Obligations.FaultStopsTheBlock := by
  refine ⟨fun s now hready hamps htelem hin hdue => ?_, fun s hready hamps htelem => ?_,
    fun s i hinit hfaulted hreset => exec_of_faulted hinit hfaulted hreset,
    fun s op rest hinit hfaulted hop hport => ⟨rest, ?_⟩⟩
  · exact (exec_execute_of_due hready htelem hin hdue).trans (congrArg _ (emitCommand_of_legacyAmps hamps))
  · rw [exec_halt_connected hready, haltTarget_of_amps htelem hamps.2]
    exact congrArg _ (emitCommand_of_legacyAmps hamps)
  · exact (step_of_not_assigned hop hport).trans (guarded_of_faulted hinit hfaulted)

end Sys2Proof.Proofs.Faults
end

section

/-! Before and after RESET: nothing runs before the first one (O8, R199), and what RESET itself writes (O43, R196,
R197). -/

open Sys2Proof Sys2Proof.Machine

namespace Sys2Proof.Proofs.Reset

/-- Settles O8: every operation but RESET is behind the guard, which refuses before the first RESET. -/
theorem nothingRunsBeforeFirstReset : Obligations.NothingRunsBeforeFirstReset := by
  intro s i huninit hreset
  obtain ⟨body, hexec, -⟩ := exec_guarded i hreset
  rw [hexec, guarded_before_reset huninit]

/-! ## The flag operands of RESET

RESET reads bit 0 of a flag; an accepted flag is 0 or 1, so nothing of it is lost. -/

/-- Bit 0 tells the two accepted flags apart. -/
theorem getLsbD_zero_of_toNat_le {b : Byte} (h : b.toNat ≤ 1) : b.getLsbD 0 = decide (b ≠ 0) := by
  have hbit : b = 0 ∨ b = 1 := by bv_omega
  obtain rfl | rfl := hbit <;> rfl

theorem protocolOfBit_of_toNat_le {b : Byte} (h : b.toNat ≤ 1) :
    protocolOfBit (b.getLsbD 0) = if b = 0 then .legacy else .canopenV2 := by
  simp only [getLsbD_zero_of_toNat_le h, protocolOfBit, decide_eq_true_eq, ite_not]

/-! ## RESET -/

section execReset
variable {node protocol encoder : Byte} {rpdoUs healthUs : U32} {pmin pmax smin smax amin amax : U16}
  {nowUs : U64} {s : State}

theorem exec_reset_of_illegal (h : 127 < node.toNat ∨ 1 < protocol.toNat ∨ 1 < encoder.toNat) :
    exec (.reset node protocol encoder rpdoUs healthUs pmin pmax smin smax amin amax nowUs) s =
      .next (raiseContractViolation .cvConfigValue s) :=
  congrArg _ (if_pos h)

theorem exec_reset_of_legal (hnode : node.toNat ≤ 127) (hprotocol : protocol.toNat ≤ 1)
    (hencoder : encoder.toNat ≤ 1) :
    exec (.reset node protocol encoder rpdoUs healthUs pmin pmax smin smax amin amax nowUs) s =
      .next (resetState
        { nodeId := BitVec.ofNat 7 node.toNat
          protocol := if protocol = 0 then .legacy else .canopenV2
          encoderPresent := decide (encoder ≠ 0)
          rpdoIntervalUs := rpdoUs, healthTimeoutUs := healthUs
          posMin := pmin, posMax := pmax, speedMin := smin, speedMax := smax
          ampsMin := amin, ampsMax := amax } nowUs s) := by
  have hlegal : ¬ (127 < node.toNat ∨ 1 < protocol.toNat ∨ 1 < encoder.toNat) := by omega
  simp only [exec, execReset]
  rw [if_neg hlegal, ← BitVec.ofNat_toNat, protocolOfBit_of_toNat_le hprotocol,
    getLsbD_zero_of_toNat_le hencoder]

end execReset

/-- Settles O43: the check of the operands alone decides, FAULTED or an earlier RESET does not, and accepted operands
are the configuration. -/
theorem resetSetsEveryRegister : Obligations.ResetSetsEveryRegister :=
  fun _ _ _ _ _ _ _ _ _ _ _ _ _ =>
    ⟨⟨_, rfl, rfl⟩, exec_reset_of_illegal, exec_reset_of_legal⟩

end Sys2Proof.Proofs.Reset
end

section

/-! The port's readers as readings of an encoding (R79, R85): each takes back the bytes of its argument, and where
the port stops inside them it ends as the port's next item makes it end. From this one fact come the round trip (O1), the
words of the spec (O2), the waiting command (O4) and the refused overlap (O5). -/

open Sys2Proof Sys2Proof.Machine

namespace Sys2Proof.Proofs.Decoder

/-- `read` takes `a` back from `bytes`, and where the port stops inside them, at its end or at a frame, it gives the
error of the byte that is missing. -/
structure Reads {α : Type} (op : Byte) (read : List PortItem → Except DecodeError (α × List PortItem))
    (bytes : List Byte) (a : α) : Prop where
  whole : ∀ rest, read (hostItems bytes ++ rest) = .ok (a, rest)
  cut : ∀ {k : Nat} {stop : List PortItem} {e : DecodeError}, k < bytes.length → readU8 op stop = .error e →
    read (hostItems (bytes.take k) ++ stop) = .error e

section
variable {α β : Type} {op : Byte}

theorem Reads.nil (a : α) : Reads op (fun r => .ok (a, r)) [] a :=
  ⟨fun _ => rfl, fun hk => absurd hk (Nat.not_lt_zero _)⟩

/-- Readers run one after the other read encodings laid one after the other. -/
theorem Reads.bind {read : List PortItem → Except DecodeError (α × List PortItem)}
    {next : α × List PortItem → Except DecodeError (β × List PortItem)} {as bs : List Byte} {a : α} {b : β}
    (hread : Reads op read as a) (hnext : Reads op (fun r => next (a, r)) bs b) :
    Reads op (fun r => read r >>= next) (as ++ bs) b where
  whole rest := by
    rw [hostItems_append, List.append_assoc, hread.whole]
    exact hnext.whole rest
  cut {k stop e} hk hstop := by
    obtain hin | hpast := Nat.lt_or_ge k as.length
    · rw [List.take_append_of_le_length hin.le, hread.cut hin hstop]
      rfl
    · have hleft : k - as.length < bs.length := by rw [List.length_append] at hk; omega
      rw [List.take_append, List.take_of_length_le hpast, hostItems_append, List.append_assoc, hread.whole]
      exact hnext.cut hleft hstop

end

/-! ## The argument readers -/

section
variable (op : Byte)

theorem readU8_reads (b : Byte) : Reads op (readU8 op) [b] b where
  whole _ := rfl
  cut {k _ _} hk hstop := by
    obtain rfl : k = 0 := Nat.lt_one_iff.1 hk
    exact hstop

theorem readU16_reads (v : U16) : Reads op (readU16 op) (bytes16 v) v := by
  have hbytes : Reads op (readU16 op) (bytes16 v) (le16 (v.extractLsb' 0 8) (v.extractLsb' 8 8)) :=
    (readU8_reads op _).bind <| (readU8_reads op _).bind <| .nil _
  rwa [le16_bytes] at hbytes

theorem readU32_reads (v : U32) : Reads op (readU32 op) (bytes32 v) v := by
  have hhalves : Reads op (readU32 op) (bytes32 v) (le32 (v.extractLsb' 0 16) (v.extractLsb' 16 16)) :=
    (readU16_reads op _).bind <| (readU16_reads op _).bind <| .nil _
  rwa [le32_halves] at hhalves

theorem readU64_reads (v : U64) : Reads op (readU64 op) (bytes64 v) v := by
  have hhalves : Reads op (readU64 op) (bytes64 v) (le64 (v.extractLsb' 0 32) (v.extractLsb' 32 32)) :=
    (readU32_reads op _).bind <| (readU32_reads op _).bind <| .nil _
  rwa [le64_halves] at hhalves

theorem readPayload_reads (p : Payload) : Reads op (readPayload op) (payloadBytes p) p :=
  (readU8_reads op p.b0).bind <| (readU8_reads op p.b1).bind <| (readU8_reads op p.b2).bind <|
    (readU8_reads op p.b3).bind <| (readU8_reads op p.b4).bind <| (readU8_reads op p.b5).bind <|
    (readU8_reads op p.b6).bind <| (readU8_reads op p.b7).bind <| .nil p

end

/-! ## Instructions -/

/-- An instruction is one frame, or an opcode whose arguments the decoder's row of that opcode reads. -/
theorem encode_cases (i : Instr) :
    (∃ op args, Reads op (decodeHost op) args i ∧ encode i = hostItems (op :: args)) ∨
      ∃ f, encode i = [.frame f] := by
  cases i with
  | sdoWrite node index subindex w data =>
    exact .inl ⟨0x01, _, (readU8_reads _ node).bind <| (readU16_reads _ index).bind <|
      (readU8_reads _ subindex).bind <| (readU8_reads _ w).bind <| (readU32_reads _ data).bind <| .nil _, rfl⟩
  | sdoReadReq node index subindex w =>
    exact .inl ⟨0x02, _, (readU8_reads _ node).bind <| (readU16_reads _ index).bind <|
      (readU8_reads _ subindex).bind <| (readU8_reads _ w).bind <| .nil _, rfl⟩
  | rpdoSend node base code offset w data =>
    exact .inl ⟨0x03, _, (readU8_reads _ node).bind <| (readU16_reads _ base).bind <|
      (readU16_reads _ code).bind <| (readU8_reads _ offset).bind <| (readU8_reads _ w).bind <|
      (readU32_reads _ data).bind <| .nil _, rfl⟩
  | decodeCobId cobId => exact .inl ⟨0x04, _, (readU16_reads _ cobId).bind <| .nil _, rfl⟩
  | decodeSdoIndex p => exact .inl ⟨0x05, _, (readPayload_reads _ p).bind <| .nil _, rfl⟩
  | decodeSdoSubindex p => exact .inl ⟨0x06, _, (readPayload_reads _ p).bind <| .nil _, rfl⟩
  | bfHi v => exact .inl ⟨0x08, _, (readU16_reads _ v).bind <| .nil _, rfl⟩
  | bfLo v => exact .inl ⟨0x09, _, (readU16_reads _ v).bind <| .nil _, rfl⟩
  | bfSetHi v b => exact .inl ⟨0x0A, _, (readU16_reads _ v).bind <| (readU8_reads _ b).bind <| .nil _, rfl⟩
  | bfSetLo v b => exact .inl ⟨0x0B, _, (readU16_reads _ v).bind <| (readU8_reads _ b).bind <| .nil _, rfl⟩
  | execute flags now =>
    exact .inl ⟨0x10, _, (readU8_reads _ flags).bind <| (readU64_reads _ now).bind <| .nil _, rfl⟩
  | rxFrame cobId length p timestamp now =>
    exact .inl ⟨0x11, _, (readU16_reads _ cobId).bind <| (readU8_reads _ length).bind <|
      (readPayload_reads _ p).bind <| (readU64_reads _ timestamp).bind <| (readU64_reads _ now).bind <| .nil _, rfl⟩
  | setPosition sp => exact .inl ⟨0x20, _, (readU16_reads _ sp).bind <| .nil _, rfl⟩
  | setSpeed sp => exact .inl ⟨0x21, _, (readU16_reads _ sp).bind <| .nil _, rfl⟩
  | setAmps sp => exact .inl ⟨0x22, _, (readU16_reads _ sp).bind <| .nil _, rfl⟩
  | setUndefined => exact .inl ⟨0x23, _, .nil _, rfl⟩
  | halt flags => exact .inl ⟨0x24, _, (readU8_reads _ flags).bind <| .nil _, rfl⟩
  | getPosition => exact .inl ⟨0x30, _, .nil _, rfl⟩
  | getSpeed => exact .inl ⟨0x31, _, .nil _, rfl⟩
  | getAmps => exact .inl ⟨0x32, _, .nil _, rfl⟩
  | getStatusWord => exact .inl ⟨0x33, _, .nil _, rfl⟩
  | getLegacyFaultStatus => exact .inl ⟨0x34, _, .nil _, rfl⟩
  | readReg reg => exact .inl ⟨0x38, _, (readU8_reads _ reg).bind <| .nil _, rfl⟩
  | writeConfig reg value =>
    exact .inl ⟨0x39, _, (readU8_reads _ reg).bind <| (readU32_reads _ value).bind <| .nil _, rfl⟩
  | reset node protocol encoder rpdoUs healthUs pmin pmax smin smax amin amax now =>
    exact .inl ⟨0xF0, _, (readU8_reads _ node).bind <| (readU8_reads _ protocol).bind <|
      (readU8_reads _ encoder).bind <| (readU32_reads _ rpdoUs).bind <| (readU32_reads _ healthUs).bind <|
      (readU16_reads _ pmin).bind <| (readU16_reads _ pmax).bind <| (readU16_reads _ smin).bind <|
      (readU16_reads _ smax).bind <| (readU16_reads _ amin).bind <| (readU16_reads _ amax).bind <|
      (readU64_reads _ now).bind <| .nil _, rfl⟩
  | sdoDownload1B | sdoDownload2B | sdoDownload4B | sdoUploadReq1B | sdoUploadReq2B | sdoUploadReq4B
  | v2CmdPosition | v2CmdSpeed | v2CmdAmps | v2FaultAck
  | legacyCmdPosition | legacyCmdSpeedEncoder | legacyCmdSpeedNoEncoder
  | tpdoPrimary | tpdoSecondary | tpdoTertiary | tpdoQuaternary => exact .inr ⟨_, rfl⟩

/-- A row's frame decodes by the key of its row, but for the one row that shares its key (notes/assumptions/13.md). -/
theorem decode_frame {i : Instr} {f : Frame} (hi : encode i = [.frame f])
    (hrow : ∀ n sp, i ≠ .legacyCmdSpeedNoEncoder n sp) (rest : List PortItem) :
    decode (.frame f :: rest) = .ok (i, rest) := by
  cases i with
  | legacyCmdSpeedNoEncoder n sp => exact absurd rfl (hrow n sp)
  | sdoDownload1B | sdoDownload2B | sdoDownload4B | sdoUploadReq1B | sdoUploadReq2B | sdoUploadReq4B =>
    cases hi
    simp [decode, decodeFrame, decodeSdoFrame, le16_bytes, le32_bytes]
  | v2CmdPosition | v2CmdSpeed | v2CmdAmps | v2FaultAck =>
    cases hi
    simp [decode, decodeFrame, decodeV2Frame, le16_bytes]
  | legacyCmdPosition | legacyCmdSpeedEncoder =>
    cases hi
    simp [decode, decodeFrame, decodeLegacyFrame, le16_bytes]
  | tpdoPrimary | tpdoSecondary | tpdoTertiary | tpdoQuaternary =>
    cases hi
    simp [decode, decodeFrame, decodeTpdoFrame]
  | _ => cases hi

/-- Settles O1: a host command is read back by its opcode's row, a frame by the key of its own. -/
theorem decodeInvertsEncode : Obligations.DecodeInvertsEncode := by
  refine ⟨fun i rest hrow => ?_, fun n sp rest => ?_⟩
  · obtain ⟨op, args, hreads, hi⟩ | ⟨f, hi⟩ := encode_cases i
    · rw [hi]
      exact hreads.whole rest
    · rw [hi]
      exact decode_frame hi hrow rest
  · exact decode_frame (i := .legacyCmdPosition n sp) rfl nofun rest

/-! ## The port -/

/-- Inside a command's bytes, the port's end or a frame makes the decoder's error. -/
theorem decode_cut {i : Instr} {k : Nat} {stop : List PortItem} {e : Byte → DecodeError} (hpos : 0 < k)
    (hk : k < (encode i).length) (hstop : ∀ op, readU8 op stop = .error (e op)) :
    ∃ op, decode ((encode i).take k ++ stop) = .error (e op) := by
  obtain ⟨op, args, hreads, hi⟩ | ⟨f, hi⟩ := encode_cases i
  · obtain ⟨k, rfl⟩ := Nat.exists_eq_add_one.2 hpos
    have hargs : k < args.length := by simpa [hi, hostItems] using hk
    refine ⟨op, ?_⟩
    rw [hi, hostItems_cons, List.take_succ_cons, hostItems, ← List.map_take]
    exact hreads.cut hargs (hstop op)
  · rw [hi] at hk
    exact absurd (Nat.lt_one_iff.1 hk) hpos.ne'

/-- Settles O4: an idle port and a command without all its bytes both leave the step nothing to do. -/
theorem idleOrIncompletePortKeepsState : Obligations.IdleOrIncompletePortKeepsState := by
  intro s i k hk hport
  obtain rfl | hpos := k.eq_zero_or_pos
  · rw [step, hport]
    rfl
  · obtain ⟨op, hdecode⟩ := decode_cut (stop := []) hpos hk fun _ => rfl
    rw [step, hport, ← List.append_nil (List.take _ _), hdecode]
    rfl

/-- Settles O5: the frame stands where the command's next byte is due. -/
theorem overlappingIssueIsRefused : Obligations.OverlappingIssueIsRefused := by
  intro s i k f rest hpos hk hport
  obtain ⟨op, hdecode⟩ := decode_cut (stop := .frame f :: rest) hpos hk fun _ => rfl
  rw [step, hport, hdecode]
  rfl

/-- Settles O3: a decoded instruction is the step's first case. -/
theorem stepRunsDecodedOperation : Obligations.StepRunsDecodedOperation := by
  intro s i rest hdecode
  rw [step, hdecode]

/-- Settles O2: the decoder is run on each word. -/
theorem writtenWordsDecode : Obligations.WrittenWordsDecode :=
  ⟨rfl, rfl, rfl, rfl, rfl, rfl, rfl, rfl, rfl, rfl, rfl, rfl, rfl, rfl⟩

end Sys2Proof.Proofs.Decoder
end

section

/-! What an operation leaves unchanged: the frame of each larger operation as one equation, and from these the
whole-machine rules on the trace, the latch, the snapshot, the setpoint, the fault-ACK counter and RPDO_START (O50 to
O55; R31 to R35, R39, R43). O11 follows from the guard every operation has. -/

open Sys2Proof Sys2Proof.Machine

namespace Sys2Proof.Proofs.Frames

/-! ## Frames -/

/-- Up to and with its check of R, a tick writes these five registers alone. -/
theorem ticked_frame {s s' : State} (h : TickPrefix s s') (now : U64) :
    checkAndRestartRpdo now s' = { s with
      telem := s'.telem, mode := s'.mode, faultAckCount := s'.faultAckCount
      tieDraws := (checkAndRestartRpdo now s').tieDraws
      rpdoStart := (checkAndRestartRpdo now s').rpdoStart } := by
  rw [checkAndRestartRpdo_eq]
  cases h with
  | kept | lost => rfl

theorem neutralized_frame {s s' : State} (h : Neutralized s s') :
    s' = { s with mode := s'.mode, setpoint := s'.setpoint } := by
  cases h with
  | undefined | setpoint | same => rfl

section ingest
variable (p : Payload) (now : U64) (s : State)

@[simp] theorem respondRx_v2_frame : respondRx true (some false) (proofOfLife now (parseV2Primary p s)) = { s with
    snap := (parseV2Primary p s).snap, healthStart := now, telem := .telemetryPresent
    response := ⟨.ok, .rx true (some false)⟩ } := by
  simp only [respondRx, respond, proofOfLife, restartHealth, parseV2Primary]

@[simp] theorem respondRx_v2Ack_frame :
    respondRx true (some true) (proofOfLife now (faultAck (parseV2Primary p s))) = { s with
      snap := (parseV2Primary p s).snap, healthStart := now, telem := .telemetryPresent
      faultAckCount := countUp s.faultAckCount, trace := s.trace ++ [faultAckFrame s.cfg.nodeId]
      sendDraws := s.sendDraws + 1, response := ⟨.ok, .rx true (some true)⟩ } := by
  simp only [respondRx, respond, proofOfLife, restartHealth, faultAck, transmit, parseV2Primary]

@[simp] theorem respondRx_legacy_frame :
    respondRx true (some false) (proofOfLife now (parseLegacyPrimary p s)) = { s with
      snap := (parseLegacyPrimary p s).snap, healthStart := now, telem := .telemetryPresent
      response := ⟨.ok, .rx true (some false)⟩ } := by
  unfold parseLegacyPrimary
  split <;> rfl

@[simp] theorem respondRx_secondary_frame : respondRx true none (parseLegacySecondary p s) = { s with
    snap := { s.snap with speed := memRead16 p 4, wSpeed := true }, response := ⟨.ok, .rx true none⟩ } := by
  simp only [respondRx, respond, parseLegacySecondary]

@[simp] theorem respondRx_tertiary_frame : respondRx true none (parseLegacyTertiary p s) = { s with
    snap := { s.snap with legacyFs := memRead16 p 0, wLegacyFs := true }, response := ⟨.ok, .rx true none⟩ } := by
  simp only [respondRx, respond, parseLegacyTertiary]

end ingest

/-! ## Progress -/

/-- Settles O11: past the guard's first check both of its branches answer a next state, and RESET has no guard. -/
theorem noOperationBlocks : Obligations.NoOperationBlocks := by
  intro s i hinit
  by_cases hreset : IsReset i
  · cases i with
    | reset => exact ⟨_, rfl⟩
    | _ => exact hreset.elim
  · obtain ⟨body, hexec, -⟩ := exec_guarded i hreset
    exact ⟨_, by rw [hexec, guarded, if_pos hinit]⟩

/-! ## The output trace -/

/-- Settles O50: only a codec send, a fault-ACK, and the emission of a tick or a halt transmit, each once. -/
theorem atMostOneFramePerOperation : Obligations.AtMostOneFramePerOperation := by
  intro s t i hreset hexec
  cases exec_nextState hexec with
  | fault | answer | violation | setpoint | setUndefined | unconfigure | writeConfig => exact .inl ⟨rfl, rfl⟩
  | send => exact .inr ⟨_, rfl, rfl⟩
  | v2 | legacy | secondary | tertiary => exact .inl (by simp)
  | v2Ack => exact .inr (by simp)
  | tickEnd _ _ now _ _ _ hp =>
    have h := ticked_frame hp now
    exact .inl ⟨by simpa using congrArg State.trace h, by simpa using congrArg State.sendDraws h⟩
  | tickUnreachable => exact .inl (by simp)
  | tickSend => exact .inr (by simp)
  | haltEnd _ _ _ _ _ hn | haltUnreachable _ _ _ _ hn =>
    have h := neutralized_frame hn
    exact .inl ⟨by simpa using congrArg State.trace h, by simpa using congrArg State.sendDraws h⟩
  | haltSend _ _ _ _ cob p _ hn =>
    have h := neutralized_frame hn
    exact .inr ⟨⟨cob, p⟩, by simpa using congrArg State.trace h, by simpa using congrArg State.sendDraws h⟩
  | resetRefused hr | reset hr => exact absurd hr hreset

/-! ## The violation latch -/

/-- An operation other than RESET raises one violation, or answers none and leaves the latch as it is. -/
theorem nextState_latch {s t : State} {i : Instr} (h : NextState s i t) (hreset : ¬ IsReset i) :
    (∃ st code, violationCode st = some code ∧ t = raiseContractViolation st s) ∨
      (t.cvLatched = s.cvLatched ∧ t.cvFirstCode = s.cvFirstCode ∧ violationCode t.response.status = none) := by
  cases h with
  | violation _ st code hcode => exact .inl ⟨st, code, hcode, rfl⟩
  | fault | answer | send | setpoint | setUndefined | unconfigure | writeConfig => exact .inr ⟨rfl, rfl, rfl⟩
  | v2 | v2Ack | legacy | secondary | tertiary => exact .inr (by simp [violationCode])
  | tickEnd _ _ now _ _ _ hp =>
    have h := ticked_frame hp now
    exact .inr ⟨by simpa using congrArg State.cvLatched h, by simpa using congrArg State.cvFirstCode h, rfl⟩
  | tickSend | tickUnreachable => exact .inr (by simp [violationCode])
  | haltEnd _ _ _ _ _ hn | haltSend _ _ _ _ _ _ _ hn | haltUnreachable _ _ _ _ hn =>
    have h := neutralized_frame hn
    exact .inr ⟨by simpa using congrArg State.cvLatched h, by simpa using congrArg State.cvFirstCode h, rfl⟩
  | resetRefused hr | reset hr => exact absurd hr hreset

/-- Settles O51: the violation writes the code only of an unlatched block. -/
theorem firstViolationStaysLatched : Obligations.FirstViolationStaysLatched := by
  intro s t i hreset hexec
  obtain ⟨st, code, hcode, rfl⟩ | ⟨hlatch, hfirst, hnone⟩ := nextState_latch (exec_nextState hexec) hreset
  · refine ⟨fun hlatched => ⟨rfl, if_pos hlatched⟩, fun hunlatched => .inr ⟨rfl, ?_⟩⟩
    simp [hunlatched, hcode, violationCode_eq_statusCode hcode]
  · exact ⟨fun hlatched => ⟨hlatch.trans hlatched, hfirst⟩,
      fun hunlatched => .inl ⟨hlatch.trans hunlatched, hfirst, hnone⟩⟩

/-! ## The snapshot -/

theorem nextState_snap {s t : State} {i : Instr} (h : NextState s i t) (hreset : ¬ IsReset i) :
    t.snap = s.snap ∨ ∃ c l p now, Ingests i c l p now := by
  cases h with
  | fault | answer | violation | send | setpoint | setUndefined | unconfigure | writeConfig => exact .inl rfl
  | tickEnd _ _ now _ _ _ hp => exact .inl (by simpa using congrArg State.snap (ticked_frame hp now))
  | tickSend | tickUnreachable => exact .inl (by simp)
  | haltEnd _ _ _ _ _ hn | haltSend _ _ _ _ _ _ _ hn | haltUnreachable _ _ _ _ hn =>
    exact .inl (by simpa using congrArg State.snap (neutralized_frame hn))
  | v2 _ _ _ _ _ hi | v2Ack _ _ _ _ _ hi | legacy _ _ _ _ _ hi | secondary _ _ _ _ _ hi
  | tertiary _ _ _ _ _ hi => exact .inr ⟨_, _, _, _, hi⟩
  | resetRefused hr | reset hr => exact absurd hr hreset

/-- The quaternary channel has no parser (R127). -/
theorem ingest_quaternary_snap (node : NodeId) (l : Byte) (p : Payload) (now : U64) (s : State) :
    (ingest (tpdoCobId 0x480 node) l p now s).snap = s.snap := by
  obtain hlong | hlegal := Nat.lt_or_ge 8 l.toNat
  · rw [ingest, if_pos hlong]
    rfl
  · obtain ⟨hn, hf, hc⟩ := tpdoCobId_480 node
    rw [ingest_of_parts hn hf hc hlegal]
    by_cases hmine : AddressedTo s node
    · rw [if_pos hmine]
      rfl
    · rw [if_neg hmine]
      rfl

/-- Settles O52: besides RESET only frame ingestion can write the snapshot, and the one receiver not excluded is
the quaternary row. -/
theorem snapshotSurvivesTelemetryLoss : Obligations.SnapshotSurvivesTelemetryLoss := by
  intro s t i hreset hrx hrows hexec
  obtain hkept | ⟨c, l, p, now, hi⟩ := nextState_snap (exec_nextState hexec) hreset
  · exact hkept
  cases hi with
  | rxFrame => exact absurd rfl (hrx _ _ _ _ _)
  | primary => exact absurd rfl (hrows _ _ _ _ _).1
  | secondary => exact absurd rfl (hrows _ _ _ _ _).2.1
  | tertiary => exact absurd rfl (hrows _ _ _ _ _).2.2
  | quaternary node =>
    obtain ⟨-, rfl⟩ | ⟨-, -, rfl⟩ := guarded_next_cases hexec
    · exact ingest_quaternary_snap node _ _ _ s
    · rfl

/-! ## The setpoint -/

/-- Settles O53: a tick loses the mode but not the setpoint, and of the rest only the setters and HALT write it. -/
theorem setpointOnlyBySettersAndHalt : Obligations.SetpointOnlyBySettersAndHalt := by
  intro s t i hreset hsetters hhalt hexec
  cases exec_nextState hexec with
  | fault | answer | violation | send | setUndefined | unconfigure | writeConfig => rfl
  | v2 | v2Ack | legacy | secondary | tertiary => simp
  | setpoint _ _ sp hi =>
    obtain ⟨hposition, hspeed, hamps⟩ := hsetters sp
    obtain hi | hi | hi := hi
    · exact absurd hi hposition
    · exact absurd hi hspeed
    · exact absurd hi hamps
  | tickEnd _ _ now _ _ _ hp => simpa using congrArg State.setpoint (ticked_frame hp now)
  | tickSend | tickUnreachable => simp
  | haltEnd _ flags hi | haltSend _ flags hi | haltUnreachable _ flags hi => exact absurd hi (hhalt flags)
  | resetRefused hr | reset hr => exact absurd hr hreset

/-! ## The fault-ACK counter -/

theorem countUp_toNat (count : U32) : (countUp count).toNat = min (count.toNat + 1) 0xFFFFFFFF := by
  rw [countUp, BitVec.toNat_ofNat, Nat.mod_eq_of_lt (by omega)]

/-- Settles O54: the fault-ACK counts with its frame, telemetry loss and RESET clear, and nothing else writes the
counter. -/
theorem faultAckCountMoves : Obligations.FaultAckCountMoves := by
  intro s t i hexec
  cases exec_nextState hexec with
  | fault | answer | violation | send | setpoint | setUndefined | writeConfig | resetRefused => exact .inl rfl
  | v2 | legacy | secondary | tertiary => exact .inl (by simp)
  | tickEnd _ _ now _ _ _ hp =>
    cases hp with
    | kept => exact .inl (by simp)
    | lost => exact .inr (.inr (by simp))
  | tickSend | tickUnreachable => exact .inl (by simp)
  | haltEnd _ _ _ _ _ hn | haltSend _ _ _ _ _ _ _ hn | haltUnreachable _ _ _ _ hn =>
    exact .inl (by simpa using congrArg State.faultAckCount (neutralized_frame hn))
  | v2Ack => exact .inr (.inl (by simp [countUp_toNat, faultAckFrame_eq]))
  | unconfigure | reset => exact .inr (.inr ⟨rfl, rfl⟩)

/-! ## RPDO_START -/

/-- The check of R keeps RPDO_START or takes the tick's time. -/
theorem ticked_rpdoStart {s s' : State} (h : TickPrefix s s') (now : U64) :
    (checkAndRestartRpdo now s').rpdoStart = s.rpdoStart ∨ (checkAndRestartRpdo now s').rpdoStart = now := by
  have hstart : s'.rpdoStart = s.rpdoStart := by
    cases h with
    | kept | lost => rfl
  rw [checkAndRestartRpdo_eq, ← hstart]
  by_cases hdue : rpdoExpired now s' = true
  · exact .inr (if_pos hdue)
  · exact .inl (if_neg hdue)

/-- Settles O55: the tick's check of R is the one writer of RPDO_START besides RESET. -/
theorem rpdoTimerRestartedOnlyByTick : Obligations.RpdoTimerRestartedOnlyByTick := by
  intro s t i hreset hexec
  cases exec_nextState hexec with
  | fault | answer | violation | send | setpoint | setUndefined | unconfigure | writeConfig => exact .inl rfl
  | v2 | v2Ack | legacy | secondary | tertiary => exact .inl (by simp)
  | tickEnd _ flags now hi _ _ hp =>
    exact (ticked_rpdoStart hp now).imp id fun hstart => ⟨flags, now, hi, hstart⟩
  | tickSend _ flags now hi k | tickUnreachable _ flags now hi k =>
    exact (ticked_rpdoStart (.kept (s := s) k) now).imp id fun hstart => ⟨flags, now, hi, hstart⟩
  | haltEnd _ _ _ _ _ hn | haltSend _ _ _ _ _ _ _ hn | haltUnreachable _ _ _ _ hn =>
    exact .inl (by simpa using congrArg State.rpdoStart (neutralized_frame hn))
  | resetRefused hr | reset hr => exact absurd hr hreset

end Sys2Proof.Proofs.Frames
end

section

/-! The block's invariant holds at reset and every step keeps it (O46, O47; R33 to R36, R44, R45, R153). -/

open Sys2Proof Sys2Proof.Machine

namespace Sys2Proof.Proofs.Invariant

/-- Settles O46: at reset there is no telemetry, no mode, no latch and no written field. -/
theorem resetMeetsBlockInvariant : Obligations.ResetMeetsBlockInvariant where
  unconfigured_has_no_telemetry _ := rfl
  no_telemetry_no_count _ := rfl
  not_legacy_amps h := nomatch h.2
  not_faulted := rfl
  cv_code_zero_unless_latched _ := rfl
  fault_code_zero_unless_faulted _ := rfl
  position_zero_unless_written _ := rfl
  speed_zero_unless_written _ := rfl
  amps_zero_unless_written _ := rfl
  status_zero_unless_written _ := rfl
  legacyFs_zero_unless_written _ := rfl

/-! ## The updates of the state keep the invariant -/

section
variable {s : State} (h : BlockInvariant s)
include h

theorem keeps_respond (st : Status) (r : Result) : BlockInvariant (respond st r s) := { h with }

theorem keeps_transmit (cob : CobId) (p : Payload) : BlockInvariant (transmit cob p s) := { h with }

theorem keeps_raiseContractViolation (st : Status) : BlockInvariant (raiseContractViolation st s) :=
  { h with cv_code_zero_unless_latched := nofun }

/-- A mode comes with any setpoint, but not Amps with Legacy. -/
theorem keeps_mode {m : Mode} (hm : m = .amps → s.cfg.protocol = .canopenV2) (sp : U16) :
    BlockInvariant { s with mode := m, setpoint := sp } :=
  { h with not_legacy_amps := fun ⟨hlegacy, hamps⟩ => nomatch hlegacy.symm.trans (hm hamps) }

theorem keeps_telemetryLoss : BlockInvariant (telemetryLoss s) :=
  { h with
    unconfigured_has_no_telemetry := fun _ => rfl
    no_telemetry_no_count := fun _ => rfl
    not_legacy_amps := fun hamps => nomatch hamps.2 }

theorem keeps_tickPrefix {s' : State} (hp : TickPrefix s s') : BlockInvariant s' := by
  cases hp with
  | kept => exact { h with }
  | lost => exact { keeps_telemetryLoss h with }

theorem keeps_checkAndRestartRpdo (now : U64) : BlockInvariant (checkAndRestartRpdo now s) := by
  rw [checkAndRestartRpdo_eq]
  exact { h with }

theorem keeps_neutralized {s' : State} (hn : Neutralized s s') : BlockInvariant s' := by
  cases hn with
  | undefined => exact keeps_mode (m := .undefined) h nofun s.setpoint
  | setpoint => exact { h with }
  | same => exact h

theorem keeps_parseV2Primary (p : Payload) : BlockInvariant (parseV2Primary p s) :=
  { h with
    position_zero_unless_written := nofun
    speed_zero_unless_written := nofun
    amps_zero_unless_written := nofun
    status_zero_unless_written := nofun }

theorem keeps_parseLegacyPrimary (p : Payload) : BlockInvariant (parseLegacyPrimary p s) := by
  unfold parseLegacyPrimary
  split
  · exact { h with position_zero_unless_written := nofun }
  · exact { h with speed_zero_unless_written := nofun }

theorem keeps_parseLegacySecondary (p : Payload) : BlockInvariant (parseLegacySecondary p s) :=
  { h with speed_zero_unless_written := nofun }

theorem keeps_parseLegacyTertiary (p : Payload) : BlockInvariant (parseLegacyTertiary p s) :=
  { h with legacyFs_zero_unless_written := nofun }

/-- Only a configured node is given telemetry. -/
theorem keeps_proofOfLife (hnode : s.cfg.nodeId ≠ 0) (now : U64) : BlockInvariant (proofOfLife now s) :=
  { h with
    unconfigured_has_no_telemetry := fun hzero => absurd hzero hnode
    no_telemetry_no_count := nofun }

/-- A fault-ACK counts together with the proof of life. -/
theorem keeps_proofOfLife_faultAck (hnode : s.cfg.nodeId ≠ 0) (now : U64) :
    BlockInvariant (proofOfLife now (faultAck s)) :=
  { h with
    unconfigured_has_no_telemetry := fun hzero => absurd hzero hnode
    no_telemetry_no_count := nofun }

/-- A configuration that unconfigures no node with telemetry and brings no Legacy to Amps. -/
theorem keeps_cfg {c : CfgRegs} (hnode : c.nodeId = 0 → s.telem = .noTelemetry)
    (hprotocol : c.protocol = .legacy → s.mode = .amps → s.cfg.protocol = .legacy) :
    BlockInvariant { s with cfg := c } :=
  { h with
    unconfigured_has_no_telemetry := hnode
    not_legacy_amps := fun ⟨hlegacy, hamps⟩ => h.not_legacy_amps ⟨hprotocol hlegacy hamps, hamps⟩ }

end

theorem resetState_blockInvariant (c : CfgRegs) (now : U64) (s : State) : BlockInvariant (resetState c now s) :=
  { resetMeetsBlockInvariant with unconfigured_has_no_telemetry := fun _ => rfl, not_legacy_amps := nofun }

/-! ## Configuration writes -/

theorem writeConfigReg_nodeId {reg : Byte} (hreg : reg ≠ 0x00) (value : U32) (c : CfgRegs) :
    (writeConfigReg reg value c).nodeId = c.nodeId := by
  unfold writeConfigReg
  split
  case h_1 hzero => exact absurd (BitVec.eq_of_toNat_eq hzero) hreg
  all_goals rfl

theorem writeConfigReg_protocol {reg : Byte} (hreg : reg ≠ 0x01) (value : U32) (c : CfgRegs) :
    (writeConfigReg reg value c).protocol = c.protocol := by
  unfold writeConfigReg
  split
  case h_2 hone => exact absurd (BitVec.eq_of_toNat_eq hone) hreg
  all_goals rfl

/-- Of the legal values of the node register only 0 unconfigures the node. -/
theorem writeConfigReg_node_ne_zero {value : U32} (hlegal : configValueLegal 0x00 value = true) (hvalue : value ≠ 0)
    (c : CfgRegs) : (writeConfigReg 0x00 value c).nodeId ≠ 0 := by
  have hle : value.toNat ≤ 127 := of_decide_eq_true hlegal
  intro hzero
  have hcut : value.setWidth 7 = 0#7 := hzero
  bv_omega

/-- Of the legal values of the protocol register only 0 is Legacy. -/
theorem writeConfigReg_legacy {value : U32} {c : CfgRegs} (hlegal : configValueLegal 0x01 value = true)
    (hlegacy : (writeConfigReg 0x01 value c).protocol = .legacy) : value = 0 := by
  obtain rfl | rfl := CommandRules.eq_zero_or_one_of_toNat_le (of_decide_eq_true hlegal)
  · rfl
  · nomatch hlegacy

theorem keeps_writeConfigReg {s : State} (h : BlockInvariant s) {reg : Byte} {value : U32}
    (hlegal : configValueLegal reg value = true) (hnode : ¬ (reg = 0x00 ∧ value = 0))
    (hamps : ¬ (reg = 0x01 ∧ value = 0 ∧ s.mode = .amps)) :
    BlockInvariant { s with cfg := writeConfigReg reg value s.cfg } := by
  refine keeps_cfg h (fun hzero => ?_) fun hlegacy hmode => ?_
  · by_cases hreg : reg = 0x00
    · subst hreg
      exact absurd hzero (writeConfigReg_node_ne_zero hlegal (fun hvalue => hnode ⟨rfl, hvalue⟩) s.cfg)
    · exact h.unconfigured_has_no_telemetry ((writeConfigReg_nodeId hreg value s.cfg).symm.trans hzero)
  · by_cases hreg : reg = 0x01
    · subst hreg
      exact absurd ⟨rfl, writeConfigReg_legacy hlegal hlegacy, hmode⟩ hamps
    · rwa [writeConfigReg_protocol hreg] at hlegacy

/-! ## Instructions and steps -/

/-- No instruction leaves the invariant; the unreachable arm has no state to start from. -/
theorem nextState_keeps {s t : State} {i : Instr} (h : BlockInvariant s) (hnext : NextState s i t) :
    BlockInvariant t := by
  cases hnext with
  | fault hfaulted => exact absurd (h.not_faulted.symm.trans hfaulted) nofun
  | answer => exact keeps_respond h _ _
  | violation | resetRefused => exact keeps_raiseContractViolation h _
  | send => exact keeps_respond (keeps_transmit h _ _) _ _
  | setpoint _ m sp _ hm => exact keeps_respond (keeps_mode h hm sp) _ _
  | setUndefined => exact keeps_respond (keeps_mode (m := .undefined) h nofun s.setpoint) _ _
  | tickEnd _ _ now _ _ _ hp => exact keeps_respond (keeps_checkAndRestartRpdo (keeps_tickPrefix h hp) now) _ _
  | tickSend _ _ now _ k =>
    exact keeps_respond (keeps_transmit (keeps_checkAndRestartRpdo (keeps_tickPrefix h (.kept k)) now) _ _) _ _
  | tickUnreachable _ _ _ _ _ _ hamps => exact absurd hamps h.not_legacy_amps
  | haltEnd _ _ _ _ _ hn => exact keeps_respond (keeps_neutralized h hn) _ _
  | haltSend _ _ _ _ _ _ _ hn => exact keeps_respond (keeps_transmit (keeps_neutralized h hn) _ _) _ _
  | haltUnreachable _ _ _ _ hn hamps => exact absurd hamps (keeps_neutralized h hn).not_legacy_amps
  | v2 _ _ _ p now _ hp =>
    exact keeps_respond (keeps_proofOfLife (keeps_parseV2Primary h p) hp.configured now) _ _
  | v2Ack _ _ _ p now _ hp =>
    exact keeps_respond (keeps_proofOfLife_faultAck (keeps_parseV2Primary h p) hp.configured now) _ _
  | legacy _ _ _ p now _ hp =>
    have hnode : (parseLegacyPrimary p s).cfg.nodeId ≠ 0 := by
      rw [Configuration.parseLegacyPrimary_cfg]
      exact hp.configured
    exact keeps_respond (keeps_proofOfLife (keeps_parseLegacyPrimary h p) hnode now) _ _
  | secondary _ _ _ p => exact keeps_respond (keeps_parseLegacySecondary h p) _ _
  | tertiary _ _ _ p => exact keeps_respond (keeps_parseLegacyTertiary h p) _ _
  | unconfigure => exact keeps_respond (keeps_cfg (keeps_telemetryLoss h) (fun _ => rfl) nofun) _ _
  | writeConfig _ reg value _ _ hlegal hnode hamps =>
    exact keeps_respond (keeps_writeConfigReg h hlegal hnode hamps) _ _
  | reset _ c now => exact resetState_blockInvariant c now s

theorem exec_keeps {s t : State} {i : Instr} (h : BlockInvariant s) (hexec : exec i s = .next t) :
    BlockInvariant t :=
  nextState_keeps h (exec_nextState hexec)

/-- A guarded body that keeps the invariant is all that can move an unfaulted block. -/
theorem guarded_keeps {body : State → State} {s t : State} (h : BlockInvariant s)
    (hbody : BlockInvariant (body s)) (hnext : guarded body s = .next t) : BlockInvariant t := by
  obtain ⟨-, rfl⟩ | ⟨-, hfaulted, -⟩ := guarded_next_cases hnext
  · exact hbody
  · exact absurd (h.not_faulted.symm.trans hfaulted) nofun

/-- Settles O47: a decoded instruction keeps the invariant; what is not decoded waits, is refused, is a violation,
or is ingested as RX_FRAME ingests it. -/
theorem stepKeepsBlockInvariant : Obligations.StepKeepsBlockInvariant := by
  intro s t h hstep
  have hport (rest : List PortItem) : BlockInvariant { s with port := rest } := { h with }
  unfold step at hstep
  split at hstep
  next i rest _ => exact exec_keeps (hport rest) hstep
  next e _ =>
    cases e with
    | empty | truncated =>
      cases hstep
      exact h
    | interrupted => cases hstep
    | unassignedOpcode op rest =>
      exact guarded_keeps (hport rest) (keeps_raiseContractViolation (hport rest) _) hstep
    | noWireRow f rest =>
      unfold undecoded at hstep
      dsimp only at hstep
      split at hstep
      · exact exec_keeps (i := .rxFrame (f.cobId.setWidth 16) f.length f.payload f.timestamp f.nowUs)
          (hport rest) hstep
      all_goals cases hstep

end Sys2Proof.Proofs.Invariant
end

section

/-! Frame ingestion (O31 to O38, O57; R123 to R139), and proof of life (O49, R130). -/

open Sys2Proof Sys2Proof.Machine

namespace Sys2Proof.Proofs.Ingestion

open Sys2Proof.Proofs.CodecRules Sys2Proof.Proofs.Frames

/-! ## The checks of R123 -/

section
variable {c : U16} {l : Byte} {p : Payload} {now : U64}

theorem ingest_of_long (hlong : 8 < l.toNat) : ingest c l p now = raiseContractViolation .cvLength :=
  funext fun _ => if_pos hlong

theorem ingest_of_wide (hl : l.toNat ≤ 8) (hwide : 0x7FF < c.toNat) :
    ingest c l p now = raiseContractViolation .cvCobRange := by
  funext s
  rw [ingest, if_neg hl.not_gt, if_pos hwide]

end

/-- Settles O32: all five receivers ingest, and ingestion checks the length and then the identifier. -/
theorem receivedFrameIsCheckedFirst : Obligations.ReceivedFrameIsCheckedFirst := by
  intro s c node l p timestamp now hready
  refine ⟨fun hlong => ⟨?_, ?_, ?_, ?_, ?_⟩, fun hl hwide => guarded_of_ready_of_eq hready (ingest_of_wide hl hwide)⟩
  all_goals exact guarded_of_ready_of_eq hready (ingest_of_long hlong)

/-- Settles O57: a row and RX_FRAME of its identifier are the same guarded ingestion. -/
theorem telemetryRowsAreRxFrames : Obligations.TelemetryRowsAreRxFrames :=
  fun _ _ _ _ _ _ => ⟨rfl, rfl, rfl, rfl⟩

/-! ## Identifiers -/

/-- An 11-bit identifier is its function code and its node (R61, R62). -/
theorem cobId_parts {c : U16} (hc : c.toNat ≤ 0x7FF) : (c &&& fcMask) ||| (c &&& nodeMask) = c := by
  have hmask : c &&& 0x7FF#16 = c := by
    apply BitVec.eq_of_toNat_eq
    rw [BitVec.toNat_and]
    exact (Nat.and_two_pow_sub_one_eq_mod c.toNat 11).trans (Nat.mod_eq_of_lt (by omega))
  calc (c &&& fcMask) ||| (c &&& nodeMask) = c &&& (fcMask ||| nodeMask) := BitVec.and_or_distrib_left.symm
    _ = c := hmask

theorem cobId_node (c : U16) : (c &&& nodeMask).toNat = c.toNat % 128 := by
  rw [BitVec.toNat_and]
  exact Nat.and_two_pow_sub_one_eq_mod c.toNat 7

/-- The function code stands in place above the seven node bits. -/
theorem cobId_functionCode {c : U16} (hc : c.toNat ≤ 0x7FF) : (c &&& fcMask).toNat = c.toNat / 128 * 128 := by
  have hdisjoint : (c &&& fcMask) &&& (c &&& nodeMask) = 0#16 := by
    rw [BitVec.and_assoc, BitVec.and_comm fcMask, BitVec.and_assoc, show nodeMask &&& fcMask = 0#16 from rfl]
    simp
  have hsum : (c &&& fcMask).toNat + (c &&& nodeMask).toNat = c.toNat := by
    rw [← BitVec.toNat_add_of_and_eq_zero hdisjoint, BitVec.add_eq_or_of_and_eq_zero _ _ hdisjoint, cobId_parts hc]
  rw [cobId_node] at hsum
  omega

/-- The four telemetry classes (R50). -/
abbrev telemetryClasses : List Nat := [0x180, 0x280, 0x380, 0x480]

theorem tpdoCobId_parts {base : Nat} (hbase : base ∈ telemetryClasses) (node : NodeId) :
    (tpdoCobId base node &&& nodeMask).toNat = node.toNat ∧ (tpdoCobId base node &&& fcMask).toNat = base ∧
      (tpdoCobId base node).toNat ≤ 0x7FF := by
  simp only [List.mem_cons, List.not_mem_nil, or_false] at hbase
  obtain rfl | rfl | rfl | rfl := hbase
  · exact tpdoCobId_180 node
  · exact tpdoCobId_280 node
  · exact tpdoCobId_380 node
  · exact tpdoCobId_480 node

/-! ## Frames that are not processed -/

section
variable {c : U16} {node : NodeId} {fc : Nat} {l : Byte} (hnode : (c &&& nodeMask).toNat = node.toNat)
  (hfc : (c &&& fcMask).toNat = fc) (hc : c.toNat ≤ 0x7FF) (hl : l.toNat ≤ 8) (p : Payload) (now : U64) {s : State}
include hnode hfc hc hl

theorem ingest_of_other_node (hother : ¬ AddressedTo s node) :
    ingest c l p now s = s.answered (.rx false none) := by
  rw [ingest_of_parts hnode hfc hc hl, if_neg hother]
  rfl

theorem ingest_of_other_class (hother : fc ∉ telemetryClasses) :
    ingest c l p now s = s.answered (.rx false none) := by
  simp only [List.mem_cons, List.not_mem_nil, or_false, not_or] at hother
  obtain ⟨h1, h2, h3, h4⟩ := hother
  rw [ingest_of_parts hnode hfc hc hl, if_neg h1, if_neg h2, if_neg h3, if_neg h4, ite_self]
  rfl

end

/-- Settles O31: the two masked parts of the identifier are its quotient and remainder by 128; the node match looks at
one, the dispatch at the other. -/
theorem framesForOthersAreNotConsumed : Obligations.FramesForOthersAreNotConsumed := by
  refine ⟨fun s c l p timestamp now hready hl hc hother => ?_, fun s node l p timestamp now i hready hl hother hi => ?_⟩
  · have hnode : (c &&& nodeMask).toNat = (BitVec.ofNat 7 c.toNat).toNat := cobId_node c
    have hfc := cobId_functionCode hc
    refine (guarded_of_ready hready).trans (congrArg _ ?_)
    obtain hzero | hnot | hclass := hother
    · exact ingest_of_other_node hnode hfc hc hl p now fun hmine => hmine.1 hzero
    · exact ingest_of_other_node hnode hfc hc hl p now fun hmine =>
        hnot ((cobId_node c).symm.trans (hnode.trans (congrArg BitVec.toNat hmine.2)))
    · refine ingest_of_other_class hnode hfc hc hl p now ?_
      simp only [List.mem_cons, List.not_mem_nil, or_false] at hclass ⊢
      omega
  · have hrow {base : Nat} (hbase : base ∈ telemetryClasses) :
        guarded (ingest (tpdoCobId base node) l p now) s = .next (s.answered (.rx false none)) := by
      obtain ⟨hnode, hfc, hc⟩ := tpdoCobId_parts hbase node
      exact (guarded_of_ready hready).trans (congrArg _ (ingest_of_other_node hnode hfc hc hl p now hother))
    simp only [List.mem_cons, List.not_mem_nil, or_false] at hi
    obtain rfl | rfl | rfl | rfl := hi
    · exact hrow (base := tpdo1Base) (by decide)
    · exact hrow (base := tpdo2Base) (by decide)
    · exact hrow (base := tpdo3Base) (by decide)
    · exact hrow (base := tpdo4Base) (by decide)

/-! ## Delivery to a channel -/

/-- A delivered frame is ingested, by RX_FRAME as by the row of its class. -/
theorem exec_of_delivers {s : State} {i : Instr} {base : Nat} {row : NodeId → Byte → Payload → U64 → U64 → Instr}
    {node : NodeId} {l : Byte} {p : Payload} {timestamp now : U64}
    (hrow : exec (row node l p timestamp now) s = guarded (ingest (tpdoCobId base node) l p now) s)
    (hi : Delivers i base row node l p timestamp now) :
    exec i s = guarded (ingest (tpdoCobId base node) l p now) s := by
  obtain rfl | rfl := hi
  · rfl
  · exact hrow

section
variable {s : State} {i : Instr} {node : NodeId} {l : Byte} {p : Payload} {timestamp now : U64} (hready : Ready s)
  (hmine : AddressedTo s node) (hl : l.toNat ≤ 8)
include hready hmine hl

/-- What the node match leaves of the guarded ingestion of a telemetry frame: the channel of its class. -/
theorem guarded_ingest_of_mine {base : Nat} (hbase : base ∈ telemetryClasses) :
    guarded (ingest (tpdoCobId base node) l p now) s = .next
      (if base = 0x180 then primary (decide (l = 8)) p now s
      else if base = 0x280 then secondary (decide (l = 8)) p s
      else if base = 0x380 then tertiary (decide (l = 8)) p s
      else if base = 0x480 then respondRx true none s
      else respondRx false none s) := by
  obtain ⟨hnode, hfc, hc⟩ := tpdoCobId_parts hbase node
  rw [guarded_of_ready hready, ingest_of_parts hnode hfc hc hl, if_pos hmine]

theorem exec_primary_of_delivers (hi : Delivers i 0x180 .tpdoPrimary node l p timestamp now) :
    exec i s = .next (primary (decide (l = 8)) p now s) :=
  (exec_of_delivers rfl hi).trans (guarded_ingest_of_mine hready hmine hl (by decide))

theorem exec_secondary_of_delivers (hi : Delivers i 0x280 .tpdoSecondary node l p timestamp now) :
    exec i s = .next (secondary (decide (l = 8)) p s) :=
  (exec_of_delivers rfl hi).trans (guarded_ingest_of_mine hready hmine hl (by decide))

theorem exec_tertiary_of_delivers (hi : Delivers i 0x380 .tpdoTertiary node l p timestamp now) :
    exec i s = .next (tertiary (decide (l = 8)) p s) :=
  (exec_of_delivers rfl hi).trans (guarded_ingest_of_mine hready hmine hl (by decide))

theorem exec_quaternary_of_delivers (hi : Delivers i 0x480 .tpdoQuaternary node l p timestamp now) :
    exec i s = .next (s.answered (.rx true none)) :=
  (exec_of_delivers rfl hi).trans (guarded_ingest_of_mine hready hmine hl (by decide))

end

/-! ## The channels -/

section
variable {p : Payload} {now : U64} {s : State}

theorem primary_short : primary false p now s = s.answered (.rx true (some false)) := rfl

theorem primary_v2 (hv2 : s.cfg.protocol = .canopenV2) :
    primary true p now s =
      if hasFaultBits (memRead16 p 0) then respondRx true (some true) (proofOfLife now (faultAck (parseV2Primary p s)))
      else respondRx true (some false) (proofOfLife now (parseV2Primary p s)) := by
  simp only [primary, hv2, if_true]
  rfl

theorem primary_legacy (hlegacy : s.cfg.protocol = .legacy) :
    primary true p now s = respondRx true (some false) (proofOfLife now (parseLegacyPrimary p s)) := by
  simp only [primary, hlegacy, if_true]

theorem secondary_v2 (full : Bool) (hv2 : s.cfg.protocol = .canopenV2) :
    secondary full p s = s.answered (.rx true none) := by
  simp only [secondary, hv2]
  rfl

theorem secondary_no_encoder (full : Bool) (hlegacy : s.cfg.protocol = .legacy)
    (hencoder : s.cfg.encoderPresent = false) :
    secondary full p s = s.violated .cvLegacySecondaryNoEncoder 0x17 := by
  simp only [secondary, hlegacy, hencoder]
  rfl

theorem secondary_encoder (full : Bool) (hlegacy : s.cfg.protocol = .legacy)
    (hencoder : s.cfg.encoderPresent = true) :
    secondary full p s =
      if full then respondRx true none (parseLegacySecondary p s) else s.answered (.rx true none) := by
  simp only [secondary, hlegacy, hencoder]
  rfl

theorem secondary_short (hsource : ¬ (s.cfg.protocol = .legacy ∧ s.cfg.encoderPresent = false)) :
    secondary false p s = s.answered (.rx true none) := by
  cases hprotocol : s.cfg.protocol with
  | canopenV2 => exact secondary_v2 false hprotocol
  | legacy =>
    have hencoder : s.cfg.encoderPresent = true := by simpa [hprotocol] using hsource
    rw [secondary_encoder false hprotocol hencoder]
    rfl

theorem tertiary_legacy (hlegacy : s.cfg.protocol = .legacy) :
    tertiary true p s = respondRx true none (parseLegacyTertiary p s) := by
  simp only [tertiary, hlegacy, if_true]

theorem tertiary_other {full : Bool} (hother : ¬ (s.cfg.protocol = .legacy ∧ full = true)) :
    tertiary full p s = s.answered (.rx true none) := by
  cases hprotocol : s.cfg.protocol with
  | canopenV2 =>
    simp only [tertiary, hprotocol]
    rfl
  | legacy =>
    obtain rfl : full = false := by simpa [hprotocol] using hother
    simp only [tertiary, hprotocol]
    rfl

end

/-- A length below 8 is not full. -/
theorem not_full_of_lt {l : Byte} (hl : l.toNat < 8) : decide (l = 8) = false :=
  decide_eq_false fun h => absurd hl (h ▸ by decide)

/-- Settles O35: none of the four channels parses a frame that is not full. -/
theorem shortFramesChangeNothing : Obligations.ShortFramesChangeNothing := by
  intro s node l p timestamp now i hready hmine hshort
  refine ⟨fun hi => ?_, fun hi hsource => ?_, fun hi => ?_, exec_quaternary_of_delivers hready hmine hshort.le⟩
  · rw [exec_primary_of_delivers hready hmine hshort.le hi, not_full_of_lt hshort, primary_short]
  · rw [exec_secondary_of_delivers hready hmine hshort.le hi, not_full_of_lt hshort, secondary_short hsource]
  · rw [exec_tertiary_of_delivers hready hmine hshort.le hi, not_full_of_lt hshort, tertiary_other (by simp)]

/-- The fault-ACK counter saturates (R32). -/
theorem countUp_eq_ite (count : U32) : countUp count = if count = 0xFFFFFFFF then 0xFFFFFFFF else count + 1 := by
  apply BitVec.eq_of_toNat_eq
  rw [countUp_toNat]
  split
  next h => simp [h]
  next h =>
    have hbelow : count.toNat < 0xFFFFFFFF := by bv_omega
    rw [BitVec.toNat_add_of_lt (by simp; omega), Nat.min_eq_left (by omega)]
    rfl

/-- The four fields of a CANopenV2 primary frame, low byte first (R132). -/
theorem parseV2Primary_snap (b0 b1 b2 b3 b4 b5 b6 b7 : Byte) (s : State) :
    (parseV2Primary ⟨b0, b1, b2, b3, b4, b5, b6, b7⟩ s).snap = { s.snap with
      status := b1 ++ b0, position := b3 ++ b2, speed := b5 ++ b4, amps := b7 ++ b6
      wStatus := true, wPosition := true, wSpeed := true, wAmps := true } := by
  simp only [parseV2Primary, memRead16_eq, byteAt]

/-- Settles O33: the fault field of the status word just stored decides between the two frames' equations. -/
theorem primaryV2Telemetry : Obligations.PrimaryV2Telemetry := by
  intro s node b0 b1 b2 b3 b4 b5 b6 b7 timestamp now i hready hmine hv2 hi
  have hfault : hasFaultBits (memRead16 ⟨b0, b1, b2, b3, b4, b5, b6, b7⟩ 0) = decide (b1.toNat % 128 ≠ 0) := by
    rw [memRead16_eq]
    exact hasFaultBits_append b1 b0
  rw [exec_primary_of_delivers hready hmine (by decide) hi, decide_eq_true rfl, primary_v2 hv2, hfault]
  refine ⟨fun hnone => ?_, fun hsome => ?_⟩
  · rw [if_neg (by simp [hnone]), respondRx_v2_frame, parseV2Primary_snap]
  · rw [if_pos (by simp [hsome]), respondRx_v2Ack_frame, parseV2Primary_snap, countUp_eq_ite, faultAckFrame_eq,
      ← hmine.2]
    rfl

/-- Settles O34: the encoder decides which field the frame's bytes 4 and 5 are. -/
theorem primaryLegacyTelemetry : Obligations.PrimaryLegacyTelemetry := by
  intro s node b0 b1 b2 b3 b4 b5 b6 b7 timestamp now i hready hmine hlegacy hi
  rw [exec_primary_of_delivers hready hmine (by decide) hi, decide_eq_true rfl, primary_legacy hlegacy,
    respondRx_legacy_frame]
  refine ⟨fun hencoder => ?_, fun hencoder => ?_⟩
  · simp only [parseLegacyPrimary, hencoder, if_true, memRead16_eq, byteAt]
  · simp [parseLegacyPrimary, hencoder, memRead16_eq, byteAt]

/-- Settles O36, case by case of the variant and the encoder. -/
theorem secondaryChannel : Obligations.SecondaryChannel := by
  intro s node l b0 b1 b2 b3 b4 b5 b6 b7 timestamp now i hready hmine hl hi
  rw [exec_secondary_of_delivers hready hmine hl hi]
  refine ⟨fun hlegacy hencoder => ?_, fun hlegacy hencoder hfull => ?_, fun hlegacy hencoder hshort => ?_,
    fun hv2 => ?_⟩
  · rw [secondary_no_encoder _ hlegacy hencoder]
  · rw [secondary_encoder _ hlegacy hencoder, if_pos (decide_eq_true hfull), respondRx_secondary_frame, memRead16_eq]
    rfl
  · rw [secondary_encoder _ hlegacy hencoder, if_neg (by simpa using hshort)]
  · rw [secondary_v2 _ hv2]

/-- Settles O37: only a full frame under Legacy reaches the parser. -/
theorem tertiaryChannel : Obligations.TertiaryChannel := by
  intro s node l b0 b1 b2 b3 b4 b5 b6 b7 timestamp now i hready hmine hl hi
  rw [exec_tertiary_of_delivers hready hmine hl hi]
  refine ⟨fun hlegacy hfull => ?_, fun hother => ?_⟩
  · rw [decide_eq_true hfull, tertiary_legacy hlegacy, respondRx_tertiary_frame, memRead16_eq]
    rfl
  · rw [tertiary_other (by simpa using hother)]

/-- Settles O38: the channel has no parser at all. -/
theorem quaternaryChannel : Obligations.QuaternaryChannel :=
  fun _ _ _ _ _ _ _ hready hmine hl hi => exec_quaternary_of_delivers hready hmine hl hi

/-! ## Proof of life -/

/-- A full primary frame is proof of life under both variants. -/
theorem primary_proofOfLife (p : Payload) (now : U64) (s : State) :
    (primary true p now s).telem = .telemetryPresent ∧ (primary true p now s).healthStart = now := by
  cases hprotocol : s.cfg.protocol with
  | canopenV2 =>
    rw [primary_v2 hprotocol]
    split <;> simp
  | legacy =>
    rw [primary_legacy hprotocol]
    simp

/-- An 11-bit identifier with the primary class and this node is the primary identifier of the node. -/
theorem eq_tpdoCobId_of_ingestsPrimary {s : State} {c : U16} {l : Byte} (h : IngestsPrimary s c l) :
    c = tpdoCobId 0x180 s.cfg.nodeId := by
  have hmine : (c &&& nodeMask).toNat = s.cfg.nodeId.toNat := (of_decide_eq_true h.mine).2
  obtain ⟨hnode, hfc, hnarrow⟩ := tpdoCobId_180 s.cfg.nodeId
  rw [← cobId_parts h.narrow, ← cobId_parts hnarrow, BitVec.eq_of_toNat_eq (h.channel.trans hfc.symm),
    BitVec.eq_of_toNat_eq (hmine.trans hnode.symm)]

/-- A row whose identifier is another row's has its class and its node. -/
theorem tpdoCobId_inj {base base' : Nat} (hbase : base ∈ telemetryClasses) (hbase' : base' ∈ telemetryClasses)
    {node node' : NodeId} (h : tpdoCobId base node = tpdoCobId base' node') : base = base' ∧ node = node' := by
  obtain ⟨hnode, hfc, -⟩ := tpdoCobId_parts hbase node
  obtain ⟨hnode', hfc', -⟩ := tpdoCobId_parts hbase' node'
  rw [h] at hnode hfc
  exact ⟨hfc.symm.trans hfc', BitVec.eq_of_toNat_eq (hnode.symm.trans hnode')⟩

/-- What `ingest` takes for a full primary frame of this controller is one, by RX_FRAME or by its row. -/
theorem isFullPrimary_of_ingests {s : State} {i : Instr} {c : U16} {l : Byte} {p : Payload} {now : U64}
    (hi : Ingests i c l p now) (hprimary : IngestsPrimary s c l) : IsFullPrimary s i now := by
  have hc := eq_tpdoCobId_of_ingestsPrimary hprimary
  have hmine : AddressedTo s s.cfg.nodeId := ⟨hprimary.configured, rfl⟩
  obtain rfl := hprimary.full
  cases hi with
  | rxFrame _ _ _ timestamp => exact ⟨_, p, timestamp, hmine, .inl (by rw [hc]; rfl)⟩
  | primary node _ _ timestamp =>
    obtain ⟨-, rfl⟩ := tpdoCobId_inj (base := tpdo1Base) (by decide) (by decide) hc
    exact ⟨_, p, timestamp, hmine, .inr rfl⟩
  | secondary => exact absurd (tpdoCobId_inj (base := tpdo2Base) (by decide) (by decide) hc).1 (by decide)
  | tertiary => exact absurd (tpdoCobId_inj (base := tpdo3Base) (by decide) (by decide) hc).1 (by decide)
  | quaternary => exact absurd (tpdoCobId_inj (base := tpdo4Base) (by decide) (by decide) hc).1 (by decide)

/-- Any other instruction gives no telemetry and, RESET apart, leaves HEALTH_START. -/
theorem nextState_not_proofOfLife {s t : State} {i : Instr} (h : NextState s i t)
    (hnot : ∀ now, ¬ IsFullPrimary s i now) :
    (t.telem = .telemetryPresent → s.telem = .telemetryPresent) ∧ (¬ IsReset i → t.healthStart = s.healthStart) := by
  cases h with
  | fault | answer | violation | send | setpoint | setUndefined | writeConfig | resetRefused =>
    exact ⟨id, fun _ => rfl⟩
  | secondary | tertiary => simp
  | tickEnd _ _ _ _ _ _ hp =>
    cases hp with
    | kept | lost => simp
  | tickSend | tickUnreachable => simp
  | haltEnd _ _ _ _ _ hn | haltSend _ _ _ _ _ _ _ hn | haltUnreachable _ _ _ _ hn =>
    cases hn with
    | undefined | setpoint | same => simp
  | v2 _ _ _ _ _ hi hp | v2Ack _ _ _ _ _ hi hp | legacy _ _ _ _ _ hi hp =>
    exact absurd (isFullPrimary_of_ingests hi hp) (hnot _)
  | unconfigure => exact ⟨nofun, fun _ => rfl⟩
  | reset hr => exact ⟨nofun, absurd hr⟩

/-- Settles O49: a delivered full primary frame is ingested as one, and what is ingested as one was delivered. -/
theorem onlyFullPrimaryIsProofOfLife : Obligations.OnlyFullPrimaryIsProofOfLife := by
  refine ⟨fun s i now hready ⟨node, p, timestamp, hmine, hi⟩ => ?_, fun s t i hready hexec hnot => ?_⟩
  · exact ⟨_, exec_primary_of_delivers hready hmine (by decide) hi, primary_proofOfLife p now s⟩
  · exact nextState_not_proofOfLife (exec_nextState hexec) hnot

end Sys2Proof.Proofs.Ingestion
end

section

/-! The getters' refusals (O40; R163, R169). -/

open Sys2Proof Sys2Proof.Machine

namespace Sys2Proof.Proofs.GetterRefusals

open Sys2Proof.Proofs.CommandRules Sys2Proof.Proofs.Getters

section
variable {provided written : Bool} {s : State} (value : Result)

theorem getter_of_noTelemetry (htelem : s.telem = .noTelemetry) :
    getter provided written value s = s.violated .cvNoTelemetry 0x15 := by
  simp only [getter, htelem]
  rfl

/-- A field not provided and a field not written are refused with one code. -/
theorem getter_of_refused (htelem : s.telem = .telemetryPresent) (hrefused : ¬ provided = true ∨ written = false) :
    getter provided written value s = s.violated .cvFieldInvalid 0x19 := by
  rw [getter_cases htelem, if_neg fun ⟨hprovided, hwritten⟩ =>
    hrefused.elim (· hprovided) (nomatch ·.symm.trans hwritten)]
  rfl

end

theorem ne_canopenV2_of_legacy {protocol : Protocol} (h : protocol = .legacy) : ¬ protocol = .canopenV2 :=
  h ▸ nofun

theorem ne_legacy_of_canopenV2 {protocol : Protocol} (h : protocol = .canopenV2) : ¬ protocol = .legacy :=
  h ▸ nofun

/-- Settles O40: the getter's checks in their order, the table of provided fields read backwards. -/
theorem gettersRefuseOtherwise : Obligations.GettersRefuseOtherwise := by
  refine ⟨fun s i hready htelem hi => ?_, fun s hready htelem =>
    ⟨fun h => ?_, fun h => ?_, fun h => ?_, fun h => ?_, fun h => ?_⟩⟩
  · simp only [List.mem_cons, List.not_mem_nil, or_false] at hi
    obtain rfl | rfl | rfl | rfl | rfl := hi
    · rw [exec_getPosition_of_ready hready, getter_of_noTelemetry _ htelem]
    · rw [exec_getSpeed_of_ready hready, getter_of_noTelemetry _ htelem]
    · rw [exec_getAmps_of_ready hready, getter_of_noTelemetry _ htelem]
    · rw [exec_getStatusWord_of_ready hready, getter_of_noTelemetry _ htelem]
    · rw [exec_getLegacyFaultStatus_of_ready hready, getter_of_noTelemetry _ htelem]
  · have hrefused := h.imp_left fun hnone => providesPosition_iff.not.2 (not_not.2 hnone)
    rw [exec_getPosition_of_ready hready, getter_of_refused _ htelem hrefused]
  · rw [exec_getSpeed_of_ready hready, getter_of_refused _ htelem (.inr h)]
  · have hrefused := h.imp_left fun hlegacy => providesAmps_iff.not.2 (ne_canopenV2_of_legacy hlegacy)
    rw [exec_getAmps_of_ready hready, getter_of_refused _ htelem hrefused]
  · have hrefused := h.imp_left fun hlegacy => providesStatus_iff.not.2 (ne_canopenV2_of_legacy hlegacy)
    rw [exec_getStatusWord_of_ready hready, getter_of_refused _ htelem hrefused]
  · have hrefused := h.imp_left fun hv2 => providesLegacyFs_iff.not.2 (ne_legacy_of_canopenV2 hv2)
    rw [exec_getLegacyFaultStatus_of_ready hready, getter_of_refused _ htelem hrefused]

end Sys2Proof.Proofs.GetterRefusals
end

section

/-! The SDO round trip (O20), and the wire rows of the block's own frames: the pseudo-instruction each one is (O45,
R88), and the frame it sends (O44; R63 to R68). -/

open Sys2Proof Sys2Proof.Machine

namespace Sys2Proof.Proofs.WireRows

open Sys2Proof.Proofs.CodecRules Sys2Proof.Proofs.CodecFields

/-! ## SDO round trip -/

/-- The decoders read the index and the subindex out of any SDO frame (R63, R101, R102). -/
theorem exec_decode_of_sdoHeader {t : State} (hready : Ready t) (cmd : Byte) (index : U16)
    (subindex d0 d1 d2 d3 : Byte) :
    exec (.decodeSdoIndex ⟨cmd, lo index, hi index, subindex, d0, d1, d2, d3⟩) t =
        .next (t.answered (.word index)) ∧
      exec (.decodeSdoSubindex ⟨cmd, lo index, hi index, subindex, d0, d1, d2, d3⟩) t =
        .next (t.answered (.byte subindex)) := by
  have hindex : hi index ++ lo index = index := le16_bytes index
  obtain ⟨-, -, hword, hbyte⟩ := sdoFieldsReadAtFixedOffsets t cmd (lo index) (hi index) subindex d0 d1 d2 d3 hready
  rw [hindex] at hword
  exact ⟨hword, hbyte⟩

/-- Settles O20: both builders write the header the decoders read, and the masks split an identifier. -/
theorem sdoRoundTrip : Obligations.SdoRoundTrip := by
  refine ⟨fun s node index subindex w data i hready hnode hw hi => ?_, fun c hc => Ingestion.cobId_parts hc⟩
  obtain rfl | rfl := hi
  · have hsend := exec_sdoWrite_of_legal index subindex data hready hnode hw
    rw [buildSdo_eq] at hsend
    exact ⟨_, _, hsend, rfl, exec_decode_of_sdoHeader (by exact hready) _ _ _ _ _ _ _⟩
  · exact ⟨_, _, exec_sdoReadReq_of_legal index subindex hready hnode hw, rfl,
      exec_decode_of_sdoHeader (by exact hready) _ _ _ _ _ _ _⟩

/-! ## Pseudo-instructions -/

section
variable (node : NodeId) {w : Byte} (hw : LegalWidth w) (s : State)

theorem node_setWidth_toNat : (node.setWidth 8).toNat = node.toNat :=
  BitVec.toNat_setWidth_of_le (by decide)

theorem node_setWidth_le : (node.setWidth 8).toNat ≤ 127 := by
  rw [node_setWidth_toNat]
  omega

include hw

/-- A 7-bit node and a legal width pass the SDO builders' checks. -/
theorem exec_sdoWrite_of_row (index : U16) (subindex : Byte) (data : U32) :
    exec (.sdoWrite (node.setWidth 8) index subindex w data) s =
      guarded (sendSdo node (buildSdo (sdoWriteCmd w) index subindex w.toNat data)) s := by
  simp only [exec, execSdoWrite]
  rw [sdoChecked_of_legal (node_setWidth_le node) hw, node_setWidth_toNat]
  rfl

theorem exec_sdoReadReq_of_row (index : U16) (subindex : Byte) :
    exec (.sdoReadReq (node.setWidth 8) index subindex w) s =
      guarded (sendSdo node (buildSdo (sdoReadCmd w) index subindex 0 0)) s := by
  simp only [exec, execSdoReadReq]
  rw [sdoChecked_of_legal (node_setWidth_le node) hw, node_setWidth_toNat]
  rfl

/-- With an 11-bit class base, and data inside the payload, so do RPDO_SEND's. -/
theorem exec_rpdoSend_of_row {base : U16} {offset : Byte} (hbase : base.toNat ≤ 0x780) (hlow : 2 ≤ offset.toNat)
    (hhigh : offset.toNat + w.toNat ≤ 8) (code : U16) (data : U32) :
    exec (.rpdoSend (node.setWidth 8) base code offset w data) s =
      guarded (sendEvent ⟨cobAt base.toNat node.toNat, buildRpdo code offset.toNat w.toNat data⟩) s := by
  have hnode := node_setWidth_le node
  simp only [exec, execRpdoSend]
  rw [rpdoChecked_of_legal hnode (by omega) hw hlow hhigh, node_setWidth_toNat]
  rfl

end

/-- Settles O45: each row's fixed operands pass the checks of the command it expands to. -/
theorem wireRowsArePseudoInstructions : Obligations.WireRowsArePseudoInstructions := by
  intro s n index sp sub d1 d2 d4
  refine ⟨?_, ?_, ?_, ?_, ?_, ?_, ?_, ?_, ?_, ?_, ?_, ?_, ?_⟩
  · rw [exec_sdoWrite_of_row n (.inl rfl)]
    rfl
  · rw [exec_sdoWrite_of_row n (.inr (.inl rfl))]
    rfl
  · rw [exec_sdoWrite_of_row n (.inr (.inr rfl))]
    rfl
  · rw [exec_sdoReadReq_of_row n (.inl rfl)]
    rfl
  · rw [exec_sdoReadReq_of_row n (.inr (.inl rfl))]
    rfl
  · rw [exec_sdoReadReq_of_row n (.inr (.inr rfl))]
    rfl
  · rw [exec_rpdoSend_of_row n (.inr (.inl rfl)) s (by decide) (by decide) (by decide)]
    rfl
  · rw [exec_rpdoSend_of_row n (.inr (.inl rfl)) s (by decide) (by decide) (by decide)]
    rfl
  · rw [exec_rpdoSend_of_row n (.inr (.inl rfl)) s (by decide) (by decide) (by decide)]
    rfl
  · rw [exec_rpdoSend_of_row n (.inl rfl) s (by decide) (by decide) (by decide)]
    rfl
  · rw [exec_rpdoSend_of_row n (.inl rfl) s (by decide) (by decide) (by decide)]
    rfl
  · rw [exec_rpdoSend_of_row n (.inl rfl) s (by decide) (by decide) (by decide)]
    rfl
  · rw [exec_rpdoSend_of_row n (.inl rfl) s (by decide) (by decide) (by decide)]
    rfl

/-! ## The frames of the rows -/

/-- The identifier of a class and a node is the encoder's (R50). -/
theorem onChannel_eq_cobOf (base : Nat) (node : NodeId) : onChannel base node = cobOf (BitVec.ofNat 11 base) node := by
  apply BitVec.eq_of_toNat_eq
  simp [cobOf]

theorem cobAt_eq_cobOf (base : Nat) (node : NodeId) : cobAt base node.toNat = cobOf (BitVec.ofNat 11 base) node :=
  onChannel_eq_cobOf base node

/-- A row that sends an event sends any frame equal to it. -/
theorem exec_of_sends {s : State} {i : Instr} {cob cob' : CobId} {p p' : Payload} (hready : Ready s)
    (hexec : exec i s = guarded (sendAndRespond cob p) s) (hframe : (⟨cob, p⟩ : TxEvent) = ⟨cob', p'⟩) :
    exec i s = .next ((s.sending cob' p').answered (.sent s.nextAnswer)) := by
  cases hframe
  exact hexec.trans (guarded_of_ready hready)

/-- Settles O44: the builders' bytes and identifiers are the encoder's. -/
theorem wireRowsSendTheirFrame : Obligations.WireRowsSendTheirFrame := by
  intro s i f hready hencode hformat
  cases i with
  | sdoDownload1B | sdoDownload2B | sdoDownload4B =>
    cases hencode
    exact exec_of_sends hready rfl (by simp [buildSdo_eq, sdoWriteCmd, extract_setWidth, cobAt_eq_cobOf, sdoReqBase])
  | sdoUploadReq1B | sdoUploadReq2B | sdoUploadReq4B =>
    cases hencode
    exact exec_of_sends hready rfl (by simp [buildSdo_eq, sdoReadCmd, cobAt_eq_cobOf, sdoReqBase])
  | v2CmdPosition | v2CmdSpeed | v2CmdAmps =>
    cases hencode
    exact exec_of_sends hready rfl (by
      simp [v2Cmd_position, v2Cmd_speed, v2Cmd_amps, v2PositionWireFrame, v2SpeedWireFrame, v2AmpsWireFrame,
        onChannel_eq_cobOf])
  | v2FaultAck =>
    cases hencode
    exact exec_of_sends hready rfl (by simp [faultAckFrame_eq, faultAckWireFrame, onChannel_eq_cobOf])
  | legacyCmdPosition | legacyCmdSpeedEncoder | legacyCmdSpeedNoEncoder =>
    cases hencode
    exact exec_of_sends hready rfl (by
      simp [legacyCmd_eq, legacyWireFrame, onChannel_eq_cobOf, rpdo1Base, rpdoLegacySpeedBase])
  | tpdoPrimary | tpdoSecondary | tpdoTertiary | tpdoQuaternary =>
    cases hencode
    exact absurd rfl hformat
  | _ => cases hencode

end Sys2Proof.Proofs.WireRows
end

section

/-! Well-formed instructions and the argument violations (O12; R83, R96, R99, R100, R123, R170, R171, R196): for every
operation but RESET the contract is what its body's checks look at, shared operation by shared operation. -/

open Sys2Proof Sys2Proof.Machine

namespace Sys2Proof.Proofs.ArgumentContracts

open Sys2Proof.Proofs.CodecRules Sys2Proof.Proofs.CommandRules Sys2Proof.Proofs.RegisterAccess

/-- The statuses that report a broken argument contract. -/
abbrev argumentViolations : List Status :=
  [.cvWidth, .cvOffset, .cvCobRange, .cvNodeRange, .cvLength, .cvConfigValue, .illegalOp]

/-- The state's answer reports no broken contract. -/
abbrev Accepted (t : State) : Prop := t.response.status ∉ argumentViolations

/-- The contract `kept` is what decides whether an operation's answer `t` is accepted. -/
abbrev Reports (kept : Bool) (t : State) : Prop := kept = true ↔ Accepted t

theorem accepted_of_ok {t : State} (h : t.response.status = .ok) : Accepted t := by
  rw [Accepted, h]
  decide

theorem accepted_of_fault {c : FaultCode} {s : State} : Accepted (raiseFault c s) := by
  rw [Accepted, raiseFault_response]
  decide

/-- A violation that depends on the state is no broken contract of the arguments. -/
theorem accepted_of_violation {st : Status} {s : State} (h : st ∉ argumentViolations) :
    Accepted (raiseContractViolation st s) :=
  h

theorem reports_of_violation {kept : Prop} {st : Status} {s : State} (hbroken : ¬ kept)
    (hst : st ∈ argumentViolations) : kept ↔ Accepted (raiseContractViolation st s) :=
  iff_of_false hbroken (not_not.2 hst)

/-! ## The contracts as conditions on values -/

theorem nodeInRange_iff {node : Byte} : nodeInRange node = true ↔ node.toNat ≤ 127 := decide_eq_true_iff

theorem widthLegal_iff : ∀ {w : Byte}, widthLegal w = true ↔ LegalWidth w := by decide

theorem flagsLegal_iff {flags : Byte} : flagsLegal flags = true ↔ ¬ reservedFlagSet flags = true := by
  rw [reservedFlagSet_iff, flagsLegal, decide_eq_true_iff, not_le]

theorem regReadable_iff {reg : Byte} {s : State} : regReadable reg = true ↔ regValue reg s ≠ none := by
  rw [Ne, regValue_none_iff, regReadable, decide_eq_true_iff]
  omega

theorem configWriteLegal_iff {reg : Byte} {value : U32} :
    configWriteLegal reg value = true ↔ reg.toNat ≤ 0x0A ∧ LegalConfig reg value := by
  have h0 : reg = 0x00 ↔ reg.toNat = 0 := BitVec.toNat_inj.symm
  have h1 : reg = 0x01 ↔ reg.toNat = 1 := BitVec.toNat_inj.symm
  have h2 : reg = 0x02 ↔ reg.toNat = 2 := BitVec.toNat_inj.symm
  rw [configWriteLegal, Bool.and_eq_true, decide_eq_true_iff, LegalConfig, h0, h1, h2]
  refine and_congr_right fun _ => ?_
  split
  · rw [decide_eq_true_iff]
    omega
  · split
    · rw [decide_eq_true_iff]
      omega
    · split
      · simp only [true_iff]
        omega
      · rw [decide_eq_true_iff]
        omega

/-! ## The shared operations -/

theorem sendAndRespond_accepted (cob : CobId) (p : Payload) (s : State) : Accepted (sendAndRespond cob p s) :=
  accepted_of_ok rfl

theorem sdoChecked_reports (node w : Byte) {body : State → State} {s : State} (hbody : Accepted (body s)) :
    Reports (nodeInRange node && widthLegal w) (sdoChecked node w body s) := by
  rw [Reports, Bool.and_eq_true, nodeInRange_iff, widthLegal_iff]
  obtain hnode | hnode := Nat.lt_or_ge 127 node.toNat
  · rw [sdoChecked_of_node hnode]
    exact reports_of_violation (fun h => hnode.not_ge h.1) (by decide)
  by_cases hw : LegalWidth w
  · rw [sdoChecked_of_legal hnode hw]
    exact iff_of_true ⟨hnode, hw⟩ hbody
  · rw [sdoChecked_of_width hnode hw]
    exact reports_of_violation (fun h => hw h.2) (by decide)

theorem rpdoChecked_reports (node : Byte) (base : U16) (offset w : Byte) {body : State → State} {s : State}
    (hbody : Accepted (body s)) :
    Reports (nodeInRange node && decide (base.toNat + node.toNat ≤ 0x7FF) && widthLegal w &&
      decide (2 ≤ offset.toNat ∧ offset.toNat + w.toNat ≤ 8)) (rpdoChecked node base offset w body s) := by
  simp only [Reports, Bool.and_eq_true, nodeInRange_iff, widthLegal_iff, decide_eq_true_iff]
  obtain hnode | hnode := Nat.lt_or_ge 127 node.toNat
  · rw [rpdoChecked_of_node hnode]
    exact reports_of_violation (fun ⟨⟨⟨h, _⟩, _⟩, _⟩ => hnode.not_ge h) (by decide)
  obtain hcob | hcob := Nat.lt_or_ge 0x7FF (base.toNat + node.toNat)
  · rw [rpdoChecked_of_cob hnode hcob]
    exact reports_of_violation (fun ⟨⟨⟨_, h⟩, _⟩, _⟩ => hcob.not_ge h) (by decide)
  by_cases hw : LegalWidth w
  · by_cases hoffset : 2 ≤ offset.toNat ∧ offset.toNat + w.toNat ≤ 8
    · rw [rpdoChecked_of_legal hnode hcob hw hoffset.1 hoffset.2]
      exact iff_of_true ⟨⟨⟨hnode, hcob⟩, hw⟩, hoffset⟩ hbody
    · rw [rpdoChecked_of_offset hnode hcob hw (by omega)]
      exact reports_of_violation (fun h => hoffset h.2) (by decide)
  · rw [rpdoChecked_of_width hnode hcob hw]
    exact reports_of_violation (fun ⟨⟨_, h⟩, _⟩ => hw h) (by decide)

theorem getter_accepted (provided written : Bool) (value : Result) (s : State) :
    Accepted (getter provided written value s) := by
  cases htelem : s.telem with
  | noTelemetry =>
    rw [GetterRefusals.getter_of_noTelemetry value htelem]
    exact accepted_of_violation (by decide)
  | telemetryPresent =>
    rw [getter_cases htelem]
    split
    · exact accepted_of_ok rfl
    · exact accepted_of_violation (by decide)

/-- A setpoint out of its limits is no broken contract: the limits are registers. -/
theorem rangeChecked_accepted (inRange : Bool) (m : Mode) (sp : U16) (s : State) :
    Accepted (if inRange then acceptSetpoint m sp s else raiseContractViolation .cvSetpointRange s) := by
  split
  · exact accepted_of_ok rfl
  · exact accepted_of_violation (by decide)

theorem emits_accepted {finish : Option Bool → State → State} {s t : State} (h : Emits finish s t)
    (hfinish : ∀ sent u, (finish sent u).response.status = .ok) : Accepted t := by
  cases h with
  | none | frame => exact accepted_of_ok (hfinish _ _)
  | unreachable => exact accepted_of_fault

theorem tick_accepted (connected : Bool) (now : U64) (s : State) : Accepted (tick connected now s) := by
  obtain ⟨s', loss, -, ⟨r, h⟩ | ⟨-, h⟩⟩ := tick_cases connected now s
  · exact h ▸ accepted_of_ok rfl
  · exact emits_accepted h fun _ _ => rfl

theorem haltBody_accepted (connected : Bool) (s : State) : Accepted (haltBody connected s) := by
  obtain ⟨r, h⟩ | h := haltBody_cases connected s
  · exact h ▸ accepted_of_ok rfl
  · exact emits_accepted h fun _ _ => rfl

/-- EXECUTE and HALT look at the reserved flag bits first. -/
theorem flagsChecked_reports (flags : Byte) {t s : State} (ht : Accepted t) :
    Reports (flagsLegal flags) (if reservedFlagSet flags then raiseContractViolation .illegalOp s else t) := by
  rw [Reports, flagsLegal_iff]
  split
  next h => exact reports_of_violation (not_not.2 h) (by decide)
  next h => exact iff_of_true h ht

theorem ingest_reports (c : U16) (l : Byte) (p : Payload) (now : U64) (s : State) :
    Reports (lengthLegal l && cobIdInRange c) (ingest c l p now s) := by
  rw [Reports, Bool.and_eq_true, lengthLegal, cobIdInRange, decide_eq_true_iff, decide_eq_true_iff]
  have h := ingest_ingested c l p now s
  generalize ingest c l p now s = t at h
  cases h with
  | tooLong hlong => exact reports_of_violation (fun h => hlong.not_ge h.1) (by decide)
  | wide _ hwide => exact reports_of_violation (fun h => hwide.not_ge h.2) (by decide)
  | noEncoder hl hc => exact iff_of_true ⟨hl, hc⟩ (accepted_of_violation (by decide))
  | answer hl hc | secondary hl hc | tertiary hl hc => exact iff_of_true ⟨hl, hc⟩ (accepted_of_ok rfl)
  | v2 h | v2Ack h | legacy h => exact iff_of_true ⟨h.full ▸ by decide, h.narrow⟩ (accepted_of_ok rfl)

/-- A row's identifier is in range, so its length is its whole contract. -/
theorem ingest_row_reports {base : Nat} (hbase : base ∈ Ingestion.telemetryClasses) (node : NodeId) (l : Byte)
    (p : Payload) (now : U64) (s : State) : Reports (lengthLegal l) (ingest (tpdoCobId base node) l p now s) := by
  have hcob : cobIdInRange (tpdoCobId base node) = true :=
    decide_eq_true (Ingestion.tpdoCobId_parts hbase node).2.2
  have h := ingest_reports (tpdoCobId base node) l p now s
  rwa [hcob, Bool.and_true] at h

theorem writeConfigBody_reports (reg : Byte) (value : U32) (s : State) :
    Reports (configWriteLegal reg value) (writeConfigBody reg value s) := by
  rw [Reports, configWriteLegal_iff]
  unfold writeConfigBody
  split
  next h =>
    have hreg : ¬ reg.toNat ≤ 0x0A := by simpa [configRegAssigned] using h
    exact reports_of_violation (fun h => hreg h.1) (by decide)
  next h =>
    have hreg : reg.toNat ≤ 0x0A := by simpa [configRegAssigned] using h
    split
    next h =>
      have hvalue : ¬ LegalConfig reg value := by simpa [← configValueLegal_iff] using h
      exact reports_of_violation (fun h => hvalue h.2) (by decide)
    next h =>
      have hvalue : LegalConfig reg value := by simpa [← configValueLegal_iff] using h
      refine iff_of_true ⟨hreg, hvalue⟩ ?_
      split
      · exact accepted_of_violation (by decide)
      · dsimp only
        split <;> exact accepted_of_ok rfl

/-! ## Instructions -/

/-- Every instruction but RESET is guarded, and its body reports whether its contract was kept. -/
theorem exec_guarded_reports {i : Instr} (hreset : ¬ IsReset i) :
    ∃ body : State → State, (∀ s, exec i s = guarded body s) ∧ ∀ s, Reports i.wellFormed (body s) := by
  cases i with
  | reset => exact absurd trivial hreset
  | sdoWrite node index subindex w data =>
    exact ⟨_, fun _ => rfl, fun s => sdoChecked_reports node w (sendAndRespond_accepted _ _ s)⟩
  | sdoReadReq node index subindex w =>
    exact ⟨_, fun _ => rfl, fun s => sdoChecked_reports node w (sendAndRespond_accepted _ _ s)⟩
  | rpdoSend node base code offset w data =>
    exact ⟨_, fun _ => rfl, fun s => rpdoChecked_reports node base offset w (sendAndRespond_accepted _ _ s)⟩
  | decodeCobId c =>
    refine ⟨_, fun _ => rfl, fun s => ?_⟩
    rw [Reports, Instr.wellFormed, cobIdInRange, decide_eq_true_iff]
    split
    next h => exact reports_of_violation h.not_ge (by decide)
    next h => exact iff_of_true (not_lt.1 h) (accepted_of_ok rfl)
  | execute flags now => exact ⟨_, fun _ => rfl, fun s => flagsChecked_reports flags (tick_accepted _ now s)⟩
  | halt flags => exact ⟨_, fun _ => rfl, fun s => flagsChecked_reports flags (haltBody_accepted _ s)⟩
  | rxFrame c l p timestamp now => exact ⟨_, fun _ => rfl, fun s => ingest_reports c l p now s⟩
  | readReg reg =>
    refine ⟨_, fun _ => rfl, fun s => ?_⟩
    rw [Reports, Instr.wellFormed, regReadable_iff (s := s)]
    split
    next h => exact iff_of_true (by simp [h]) (accepted_of_ok rfl)
    next h => exact reports_of_violation (by simp [h]) (by decide)
  | writeConfig reg value => exact ⟨_, fun _ => rfl, fun s => writeConfigBody_reports reg value s⟩
  | tpdoPrimary node l p timestamp now =>
    exact ⟨_, fun _ => rfl, fun s => ingest_row_reports (base := tpdo1Base) (by decide) node l p now s⟩
  | tpdoSecondary node l p timestamp now =>
    exact ⟨_, fun _ => rfl, fun s => ingest_row_reports (base := tpdo2Base) (by decide) node l p now s⟩
  | tpdoTertiary node l p timestamp now =>
    exact ⟨_, fun _ => rfl, fun s => ingest_row_reports (base := tpdo3Base) (by decide) node l p now s⟩
  | tpdoQuaternary node l p timestamp now =>
    exact ⟨_, fun _ => rfl, fun s => ingest_row_reports (base := tpdo4Base) (by decide) node l p now s⟩
  | setPosition sp | setSpeed sp =>
    exact ⟨_, fun _ => rfl, fun s => iff_of_true rfl (rangeChecked_accepted _ _ _ s)⟩
  | setAmps sp =>
    refine ⟨_, fun _ => rfl, fun s => iff_of_true rfl ?_⟩
    split
    · exact accepted_of_violation (by decide)
    · exact rangeChecked_accepted _ _ _ s
  | getPosition | getSpeed | getAmps | getStatusWord | getLegacyFaultStatus =>
    exact ⟨_, fun _ => rfl, fun s => iff_of_true rfl (getter_accepted _ _ _ s)⟩
  | decodeSdoIndex | decodeSdoSubindex | bfHi | bfLo | bfSetHi | bfSetLo | setUndefined =>
    exact ⟨_, fun _ => rfl, fun s => iff_of_true rfl (accepted_of_ok rfl)⟩
  | sdoDownload1B | sdoDownload2B | sdoDownload4B | sdoUploadReq1B | sdoUploadReq2B | sdoUploadReq4B
  | v2CmdPosition | v2CmdSpeed | v2CmdAmps | v2FaultAck
  | legacyCmdPosition | legacyCmdSpeedEncoder | legacyCmdSpeedNoEncoder =>
    exact ⟨_, fun _ => rfl, fun s => iff_of_true rfl (sendAndRespond_accepted _ _ s)⟩

/-- RESET has no guard, and one check of its three narrow operands. -/
theorem exec_reset_reports {i : Instr} {s t : State} (hreset : IsReset i) (hexec : exec i s = .next t) :
    Reports i.wellFormed t := by
  cases i with
  | reset =>
    simp only [Reports, Instr.wellFormed, Bool.and_eq_true, nodeInRange_iff, decide_eq_true_iff]
    simp only [exec, execReset, Host.Outcome.next.injEq] at hexec
    subst hexec
    split
    next h => exact reports_of_violation (by omega) (by decide)
    next h => exact iff_of_true (by omega) (accepted_of_ok rfl)
  | _ => exact hreset.elim

/-- Settles O12: in a ready state the guard lets the body run, which reports. -/
theorem wellFormedMeansNoArgumentViolation : Obligations.WellFormedMeansNoArgumentViolation := by
  intro s t i hready hexec
  by_cases hreset : IsReset i
  · exact exec_reset_reports hreset hexec
  · obtain ⟨body, hbody, hreports⟩ := exec_guarded_reports hreset
    rw [hbody, guarded_of_ready hready] at hexec
    cases hexec
    exact hreports s

end Sys2Proof.Proofs.ArgumentContracts
end

section

/-! No tick fires or sends before its interval has passed (O56; R111, R118, R198): one tick, a tick without telemetry,
and any run of operations after a RESET. -/

open Sys2Proof Sys2Proof.Machine

namespace Sys2Proof.Proofs.TickInterval

open Sys2Proof.Proofs.TickRules

/-! ## One tick -/

/-- Less time than a non-zero interval is not expiry, nor is a time before the start. -/
theorem not_timerExpired {start : U64} {interval : U32} {now : U64} {tie : Bool} (hpos : 0 < interval.toNat)
    (hearly : now.toNat < start.toNat + interval.toNat) : ¬ TimerExpired start interval now tie := by
  rintro (hmore | ⟨heq, -⟩) <;> omega

theorem rpdoExpired_early {s s' : State} {now : U64} (hp : TickPrefix s s') (hpos : 0 < s.cfg.rpdoIntervalUs.toNat)
    (hearly : now.toNat < s.rpdoStart.toNat + s.cfg.rpdoIntervalUs.toNat) : rpdoExpired now s' = false := by
  cases hp with
  | kept | lost => exact expired_eq_false (not_timerExpired hpos hearly)

/-- An early tick fires nothing, whatever it does to telemetry. -/
theorem tick_early {s : State} (connected : Bool) {now : U64} (hpos : 0 < s.cfg.rpdoIntervalUs.toNat)
    (hearly : now.toNat < s.rpdoStart.toNat + s.cfg.rpdoIntervalUs.toNat) :
    ∃ s' loss, TickPrefix s s' ∧
      tick connected now s = respond .ok (.tick loss false none) (countCheck s') := by
  obtain ⟨s', loss, hp, h⟩ := tick_prefix connected now s
  exact ⟨s', loss, hp, h.trans (tickCommand_of_not_expired (rpdoExpired_early hp hpos hearly))⟩

/-- A ready EXECUTE within the interval fires nothing, sends nothing and keeps RPDO_START. -/
theorem exec_execute_early {s : State} {flags : Byte} {now : U64} (hready : Ready s) (hflags : flags.toNat < 2)
    (hpos : 0 < s.cfg.rpdoIntervalUs.toNat)
    (hearly : now.toNat < s.rpdoStart.toNat + s.cfg.rpdoIntervalUs.toNat) :
    ∃ t loss, exec (.execute flags now) s = .next t ∧ t.response = ⟨.ok, .tick loss false none⟩ ∧
      t.trace = s.trace ∧ t.sendDraws = s.sendDraws ∧ t.rpdoStart = s.rpdoStart := by
  obtain ⟨s', loss, hp, h⟩ := tick_early (connectedFlag flags) hpos hearly
  refine ⟨_, loss, exec_execute_of_ready now hready hflags, ?_⟩
  rw [h]
  cases hp with
  | kept | lost => exact ⟨rfl, rfl, rfl, rfl⟩

/-- Without telemetry a tick has no command to emit, at any time. -/
theorem tick_of_telemetry_absent {s : State} (connected : Bool) (now : U64) (htelem : s.telem = .noTelemetry) :
    (tick connected now s).trace = s.trace ∧ (tick connected now s).telem = .noTelemetry := by
  obtain ⟨s', loss, hp, ⟨r, h⟩ | ⟨hpresent, -⟩⟩ := tick_cases connected now s
  · rw [h]
    cases hp with
    | kept | lost => simp [htelem]
  · cases hp with
    | kept => nomatch htelem.symm.trans hpresent
    | lost => nomatch hpresent

/-! ## A run of operations -/

/-- What holds between the RESET at `start` and the end of the first interval `us`. -/
structure Waiting (start : U64) (us : U32) (s : State) : Prop where
  initialised : s.initialised = true
  invariant : BlockInvariant s
  rpdoStart : s.rpdoStart = start
  interval : s.cfg.rpdoIntervalUs = us

/-- The operations O56 allows in between. -/
abbrev Allowed (start : U64) (us : U32) (i : Instr) : Prop :=
  ¬ IsReset i ∧ (∀ value, i ≠ .writeConfig 0x03 value) ∧
    ∀ f n, i = .execute f n → n.toNat < start.toNat + us.toNat

theorem Waiting.ready {start : U64} {us : U32} {s : State} (h : Waiting start us s) : Ready s :=
  ⟨h.initialised, h.invariant.not_faulted⟩

/-- A ready EXECUTE within the interval keeps RPDO_START, with reserved flags too. -/
theorem exec_execute_early_rpdoStart {s t : State} {flags : Byte} {now : U64} (hready : Ready s)
    (hpos : 0 < s.cfg.rpdoIntervalUs.toNat)
    (hearly : now.toNat < s.rpdoStart.toNat + s.cfg.rpdoIntervalUs.toNat)
    (hexec : exec (.execute flags now) s = .next t) : t.rpdoStart = s.rpdoStart := by
  obtain hflags | hflags := Nat.lt_or_ge flags.toNat 2
  · obtain ⟨t', -, hexec', -, -, -, hstart⟩ := exec_execute_early hready hflags hpos hearly
    cases hexec.symm.trans hexec'
    exact hstart
  · cases hexec.symm.trans (IllegalOp.exec_of_illegalForm hready (.inl ⟨flags, now, rfl, hflags⟩))
    rfl

/-- Only WRITE_CONFIG of register 3 writes the interval (R23, R171). -/
theorem exec_rpdoIntervalUs {s t : State} {i : Instr} (hreset : ¬ IsReset i)
    (hother : ∀ value, i ≠ .writeConfig 0x03 value) (hexec : exec i s = .next t) :
    t.cfg.rpdoIntervalUs = s.cfg.rpdoIntervalUs := by
  by_cases hwrite : ∃ reg value, i = .writeConfig reg value
  · obtain ⟨reg, value, rfl⟩ := hwrite
    have hreg : reg ≠ 0x03 := fun h => hother value (by rw [h])
    obtain ⟨-, rfl⟩ | ⟨-, -, rfl⟩ := guarded_next_cases hexec
    · unfold writeConfigBody
      dsimp only
      repeat' split
      · rfl
      · rfl
      · rfl
      · exact writeConfigReg_rpdoIntervalUs hreg value s.cfg
      · exact writeConfigReg_rpdoIntervalUs hreg value s.cfg
    · rfl
  · rw [Configuration.configurationOnlyByHostWrites s t i hreset (fun reg value h => hwrite ⟨reg, value, h⟩) hexec]

theorem Waiting.exec {start : U64} {us : U32} {s t : State} {i : Instr} (h : Waiting start us s)
    (hpos : 0 < us.toNat) (hi : Allowed start us i) (hexec : exec i s = .next t) : Waiting start us t := by
  obtain ⟨hreset, hwrite, htick⟩ := hi
  have hstart : t.rpdoStart = s.rpdoStart := by
    obtain hkept | ⟨flags, now, rfl, -⟩ := Frames.rpdoTimerRestartedOnlyByTick s t i hreset hexec
    · exact hkept
    · have hearly := htick flags now rfl
      rw [← h.rpdoStart, ← h.interval] at hearly
      exact exec_execute_early_rpdoStart h.ready (h.interval ▸ hpos) hearly hexec
  exact ⟨exec_keeps_initialised hexec h.initialised, Invariant.exec_keeps h.invariant hexec,
    hstart.trans h.rpdoStart, (exec_rpdoIntervalUs hreset hwrite hexec).trans h.interval⟩

theorem Waiting.runs {start : U64} {us : U32} {s u : State} {ops : List Instr} (h : Waiting start us s)
    (hpos : 0 < us.toNat) (hops : ∀ i ∈ ops, Allowed start us i) (hruns : Runs s ops u) : Waiting start us u := by
  induction ops generalizing s with
  | nil =>
    obtain rfl : u = s := hruns
    exact h
  | cons i ops ih =>
    obtain ⟨t, hexec, hrest⟩ := hruns
    exact ih (h.exec hpos (hops i List.mem_cons_self) hexec)
      (fun j hj => hops j (List.mem_cons_of_mem i hj)) hrest

/-- An accepted RESET starts the wait. -/
theorem waiting_of_reset {s t : State} {node protocol encoder : Byte} {us healthUs : U32}
    {pmin pmax smin smax amin amax : U16} {start : U64}
    (hexec : exec (.reset node protocol encoder us healthUs pmin pmax smin smax amin amax start) s = .next t)
    (hok : t.response.status = .ok) : Waiting start us t := by
  by_cases hillegal : 127 < node.toNat ∨ 1 < protocol.toNat ∨ 1 < encoder.toNat
  · cases hexec.symm.trans (Reset.exec_reset_of_illegal hillegal)
    nomatch hok
  · obtain ⟨hnode, hprotocol, hencoder⟩ : node.toNat ≤ 127 ∧ protocol.toNat ≤ 1 ∧ encoder.toNat ≤ 1 := by omega
    cases hexec.symm.trans (Reset.exec_reset_of_legal hnode hprotocol hencoder)
    exact ⟨rfl, Invariant.resetState_blockInvariant _ _ _, rfl, rfl⟩

/-- Settles O56: an early tick finds R not expired, and after a RESET the allowed operations keep the tick early. -/
theorem noTickSendsBeforeInterval : Obligations.NoTickSendsBeforeInterval := by
  refine ⟨fun s flags now hready hflags hpos hearly => exec_execute_early hready hflags hpos hearly,
    fun s flags now hready hflags htelem => ?_,
    fun s t u node protocol encoder us healthUs pmin pmax smin smax amin amax start now flags ops hexec hok hpos
      hruns hops hflags hearly => ?_⟩
  · exact ⟨_, exec_execute_of_ready now hready hflags, tick_of_telemetry_absent _ now htelem⟩
  · have hwaiting := (waiting_of_reset hexec hok).runs hpos hops hruns
    obtain ⟨hinit, hinv, rfl, rfl⟩ := hwaiting
    obtain ⟨v, loss, hv, hresponse, htrace, -, hstart⟩ :=
      exec_execute_early ⟨hinit, hinv.not_faulted⟩ hflags hpos hearly
    exact ⟨v, loss, hv, hresponse, htrace, hstart⟩

end Sys2Proof.Proofs.TickInterval
end
